-- ==== Sys2Proof/Word.lean ====
section
/-! DEFINITION. The word of the host port and of every count, rate and interval (30_encoding.md R80, R84; 20_memory.md R66). -/

namespace Sys2Proof

/-- One 32-bit word: what HOST_WRITE and HOST_READ move (R62, R63, R66). -/
abbrev Word := BitVec 32

/-- One byte, for the byte-addressed view of the port only (R64). -/
abbrev Byte := BitVec 8

end Sys2Proof
end

