-- ==== Sys2Proof/Syntax.lean ====
section
/-! DEFINITION. The host's language: the six commands (30_encoding.md R82), the stored Move (R85), the register
indices (20_memory.md R61), the result codes (R90), the host's script statements (R92, R93) and the agents
(00_scope.md R17). -/

namespace Sys2Proof

/-- The commands, one constructor per row of the opcode table (30_encoding.md R82). The field types are exact:
`esmask` is 16 bits and `sot` one bit (R81, R83), so every term has an encoding. -/
inductive Instr where
  /-- 44_controller_commands.md R179 -/
  | nop
  /-- 44_controller_commands.md R177 -/
  | init
  /-- 43_move_queue.md R161; its operands are the staging registers, format M -/
  | push
  /-- 43_move_queue.md R162; `esmask = w[23:8]`, `sot = w[24]`, and the staging registers -/
  | pushHome (esmask : BitVec 16) (sot : Bool)
  /-- 44_controller_commands.md R178 -/
  | estop
  /-- 44_controller_commands.md R176; its operands are `MV[8..15]`, format P -/
  | setpos
deriving DecidableEq, Repr

/-- The stored form of a Move, one slot entry (30_encoding.md R85). `escond` is PA's `endstop_stop_on_change`:
true = stop on open → triggered, false = on triggered → open (R87). -/
structure Move where
  dir : BitVec 8
  dwell : Bool
  totalSteps : Word
  nominalRate : Word
  accelRate : Word
  decelRate : Word
  accelUntilStep : Word
  decelFromStep : Word
  c0 : Word
  delta : Vector Word 8
  esmask : BitVec 16
  escond : Bool
deriving DecidableEq, Repr, Inhabited

/-- The RESULT codes (30_encoding.md R90). Codes 8 to 15 are never written, so the type has eight values. -/
inductive Result where
  | ok
  | queueFullBlocked
  | notInit
  | eStopped
  | badMove
  | notIdle
  | busy
  | badCommand
deriving DecidableEq, Repr

/-- The phase of the interval `cur` (10_state.md R22). -/
inductive Phase where
  | none
  | accel
  | cruise
  | decel
deriving DecidableEq, Repr

/-! ### Register indices of the host register space (20_memory.md R61) -/

namespace Port

def cmd : BitVec 6 := 0x00
def result : BitVec 6 := 0x01
def status : BitVec 6 := 0x02
def qlen : BitVec 6 := 0x03
def qhead : BitVec 6 := 0x04
def qtail : BitVec 6 := 0x05
def cnt : BitVec 6 := 0x06
def ocrA : BitVec 6 := 0x07
def ocrB : BitVec 6 := 0x08
def nst : BitVec 6 := 0x09
def anchor : BitVec 6 := 0x0A
def sysTicks : BitVec 6 := 0x0B
def stepNo : BitVec 6 := 0x0C
def totalSteps : BitVec 6 := 0x0D
def curInterval : BitVec 6 := 0x0E
def rampN : BitVec 6 := 0x0F
def es : BitVec 6 := 0x10
/-- POS0 to POS7 are 0x18 to 0x1F. -/
def pos (a : Fin 8) : BitVec 6 := BitVec.ofNat 6 (0x18 + a.val)
/-- BRES0 to BRES7 are 0x20 to 0x27. -/
def bres (a : Fin 8) : BitVec 6 := BitVec.ofNat 6 (0x20 + a.val)
/-- MV0 to MV15 are 0x30 to 0x3F. -/
def mv (k : Fin 16) : BitVec 6 := BitVec.ofNat 6 (0x30 + k.val)

end Port

/-- What a host program is made of: the accesses `WR` and `RD` of 30_encoding.md R92 and the loops that the
pseudo-statements of R93 expand to. Each is at most one access of the port per turn of the host. -/
inductive HostStmt where
  /-- `WR reg, value` (R92): one HOST_WRITE. -/
  | wr (a : BitVec 6) (v : Word)
  /-- `RD reg` (R92): one HOST_READ. -/
  | rd (a : BitVec 6)
  /-- `WR reg, x` with `x` the value the host read last: 46_homing_protocol.md R205 writes the POS of the
  other axes back unchanged. -/
  | wrLast (a : BitVec 6)
  /-- The loop of `ENQ` (R93), at its `CMD` write of the word `w`. -/
  | retryPush (w : Word)
  /-- The same loop, at its `RD RESULT`: again while the value read is 1. -/
  | retryCheck (w : Word)
  /-- `WAIT_IDLE` (R93): repeat `RD STATUS` until bit 3 is 1. -/
  | waitIdle
  /-- Host code without an access: drop the next `n` statements unless bit `bit` of the value read last is 1
  (the test of 46_homing_protocol.md R204). -/
  | skipUnless (bit : Fin 32) (n : Nat)
deriving DecidableEq, Repr

/-- Who moves next (00_scope.md R17). The environment makes no transition of the block: its entry is the script
statement `ES b, v` (R92). Reset comes from outside (70_reset_and_hazards.md R235). -/
inductive Agent where
  | host
  | counter
  | tickBody
  | environment (b : Fin 16) (v : Bool)
  | reset
deriving DecidableEq, Repr

/-- One entry of the schedule (log 3). -/
inductive Turn where
  /-- one transition of an agent -/
  | agent (g : Agent)
  /-- the host until its present statement is over: one line of a script, also where that line is the loop of `ENQ` or
  `WAIT_IDLE` (30_encoding.md R93; log 12) -/
  | hostStatement
deriving DecidableEq, Repr

end Sys2Proof
end

