-- ==== Sys2Proof/Config.lean ====
section
/-! DEFINITION. The implementation parameters (00_scope.md R9, R10), the reference configuration (R12), and the
free values: constants without a body, for what the spec leaves open (93_implementation_defined.md part 2). -/

namespace Sys2Proof

/-- The configuration record of 00_scope.md R9 and R10. `COUNTER_RANGE` is not a field: it is `2^COUNTER_BITS`
(`Config.range`). The velocity mode is fixed to trapezoidal (R6). -/
structure Config where
  nAxes : Nat
  counterBits : Nat
  cpuFreq : Nat
  tickTime : Nat
  queueCapacity : Nat
  safeIsrCycles : Nat
  counterGuard : Nat
  minStepTicks : Nat
  dirSetupTicks : Nat
  stepPulseTicks : Nat
  debounceSamples : Nat
deriving DecidableEq, Repr

/-- `R`, COUNTER_RANGE (R9, R12). -/
def Config.range (c : Config) : Nat := 2 ^ c.counterBits

/-- `2·CAP`, the modulus of the ring indices (43_move_queue.md R155). -/
def Config.ringMod (c : Config) : Nat := 2 * c.queueCapacity

/-- REFCFG (R12), "used by every derived test vector and by no rule". DESIGN CHOICE (log 1): State.reset holds
it; a statement about the block is made for every configuration. -/
def Config.reference : Config where
  nAxes := 3
  counterBits := 16
  cpuFreq := 16000000
  tickTime := 32000
  queueCapacity := 8
  safeIsrCycles := 200
  counterGuard := 10000
  minStepTicks := 400
  dirSetupTicks := 100
  stepPulseTicks := 32
  debounceSamples := 1

/-- FREE VALUE (log 6). The raw level of endstop input `b` at draw number `draw`: "any value per draw"
(93_implementation_defined.md part 2; 00_scope.md R14). Used where no `ES b, v` has fixed the input. -/
opaque Config.freeEndstop (draw b : Nat) : Bool

/-- FREE VALUE (log 8). What slot entry `i` holds while no PUSH has written it: "unspecified: any content"
(70_reset_and_hazards.md R236, R238). -/
opaque Config.freeSlot (i : Nat) : Move

/-- FREE VALUE (log 9). `x div 0`: the rules define `div` for `y ≠ 0` only (00_scope.md R13) and validation
excludes it (41_velocity_profiler.md R125). -/
opaque Config.freeQuotient (x : Nat) : Nat

/-- FREE VALUE (log 18). What a 32-bit register of the port reads where its value `n` does not fit: QUEUE_CAPACITY and
DIR_SETUP_TICKS have no upper bound (00_scope.md R9), and 20_memory.md R61 says only what narrower values read. -/
opaque Config.freeRead (n : Nat) : Word

/-- FREE VALUE (log 20). The word a homing host stages for a number `n` that does not fit its MV word: no rule says what it
sends (46_homing_protocol.md R202, R203, R205). -/
opaque Config.freeStaged (n : Int) : Word

end Sys2Proof
end

