-- ==== Sys2Proof/WellFormed.lean ====
section
/-! DEFINITION. What a well-formed configuration is (00_scope.md R9, R10; 70_reset_and_hazards.md R248), and the
well-formedness of a command, whose field types are exact (30_encoding.md R81, R83). -/

namespace Sys2Proof

/-- The constraints of 00_scope.md R9 and R10, one conjunct each; SAFE_ISR_CYCLES and DIR_SETUP_TICKS have none
("natural", "natural ≥ 0"). -/
abbrev Config.WellFormed (c : Config) : Prop :=
  (1 ≤ c.nAxes ∧ c.nAxes ≤ 8) ∧
  (16 ≤ c.counterBits ∧ c.counterBits ≤ 32) ∧
  (1 ≤ c.cpuFreq ∧ c.cpuFreq < 2 ^ 32) ∧
  (1 ≤ c.tickTime ∧ c.tickTime < c.range) ∧
  1 ≤ c.queueCapacity ∧
  (1 ≤ c.counterGuard ∧ 2 * c.counterGuard ≤ c.range) ∧
  (1 ≤ c.minStepTicks ∧ c.minStepTicks < c.range) ∧
  (1 ≤ c.stepPulseTicks ∧ c.stepPulseTicks < c.minStepTicks) ∧
  1 ≤ c.debounceSamples

/-- Every term of `Instr` is well formed: the mask is used as it is and nothing is scaled or extended (R83).
Which masks a configuration accepts is no question of encoding: a PUSH_HOME with a bit of an absent axis is an
instruction, and answers BadMove (R159, R162). -/
def Instr.wellFormed : Instr → Bool
  | .nop => true
  | .init => true
  | .push => true
  | .pushHome _ _ => true
  | .estop => true
  | .setpos => true

end Sys2Proof
end

