-- ==== Sys2Proof/Decode.lean ====
section
/-! DEFINITION. The command decoder and encoder (30_encoding.md R81 to R83, R88; 44_controller_commands.md R175),
and the byte view of a word (20_memory.md R64). -/

namespace Sys2Proof

/-- One row of the opcode map: "A word `w` selects the row with `(w AND mask) = match`" (R82). -/
structure OpcodeRow where
  pattern : Word
  mask : Word
deriving DecidableEq, Repr

def OpcodeRow.selects (r : OpcodeRow) (w : Word) : Bool := w &&& r.mask == r.pattern

/-! The table of R82, row by row. -/

def rowNop : OpcodeRow := ⟨0x00000000, 0xFFFFFFFF⟩
def rowInit : OpcodeRow := ⟨0x00000001, 0xFFFFFFFF⟩
def rowPush : OpcodeRow := ⟨0x00000002, 0xFFFFFFFF⟩
def rowPushHome : OpcodeRow := ⟨0x00000003, 0xFE0000FF⟩
def rowEstop : OpcodeRow := ⟨0x00000004, 0xFFFFFFFF⟩
def rowSetpos : OpcodeRow := ⟨0x00000005, 0xFFFFFFFF⟩

/-- The opcode map (R82). -/
def opcodeMap : List OpcodeRow := [rowNop, rowInit, rowPush, rowPushHome, rowEstop, rowSetpos]

/-- The row an instruction stands in. -/
def Instr.row : Instr → OpcodeRow
  | .nop => rowNop
  | .init => rowInit
  | .push => rowPush
  | .pushHome _ _ => rowPushHome
  | .estop => rowEstop
  | .setpos => rowSetpos

/-! The fields of format C (R81). -/

def opField (w : Word) : BitVec 8 := w.extractLsb' 0 8
def esmaskField (w : Word) : BitVec 16 := w.extractLsb' 8 16
def sotField (w : Word) : Bool := w.getLsbD 24
def reservedField (w : Word) : BitVec 7 := w.extractLsb' 25 7

/-- Why a word is no command (R88). -/
inductive Reject where
  /-- an `op` from 0x06 to 0xFF -/
  | reservedOpcode
  /-- any of bits 31:25 set -/
  | reservedBits
  /-- bits 24:8 not all 0 with an `op` other than 0x03 -/
  | operandBits
deriving DecidableEq, Repr

/-- The first ground of R88 that a word of no row meets. -/
def rejection (w : Word) : Reject :=
  if 0x06 ≤ (opField w).toNat then .reservedOpcode
  else if reservedField w ≠ 0 then .reservedBits
  else .operandBits

/-- The decoder, in the order of COMMAND (R175). -/
def decodeOrReject (w : Word) : Except Reject Instr :=
  if rowNop.selects w then .ok .nop
  else if rowInit.selects w then .ok .init
  else if rowPush.selects w then .ok .push
  else if rowPushHome.selects w then .ok (.pushHome (esmaskField w) (sotField w))
  else if rowEstop.selects w then .ok .estop
  else if rowSetpos.selects w then .ok .setpos
  else .error (rejection w)

/-- The instruction a word encodes, none where it is reserved (R88). -/
def decode (w : Word) : Option Instr := (decodeOrReject w).toOption

/-- The command word (R82): the row's pattern, and for PUSH_HOME `0x03 + (esmask << 8) + (sot << 24)` (R162). -/
def encode : Instr → Word
  | .nop => 0x00000000
  | .init => 0x00000001
  | .push => 0x00000002
  | .pushHome esmask sot => 0#7 ++ BitVec.ofBool sot ++ esmask ++ 0x03#8
  | .estop => 0x00000004
  | .setpos => 0x00000005

/-- The word of four bytes on a byte-addressed bus: the byte at offset k holds bits 8k+7 down to 8k (R64). -/
def wordOfBytes (b0 b1 b2 b3 : Byte) : Word := b3 ++ b2 ++ b1 ++ b0

/-- The byte at offset `k` of a word (R64). -/
def byteOfWord (w : Word) (k : Nat) : Byte := w.extractLsb' (8 * k) 8

/-- The decoder on bytes: one command is exactly four bytes (R80, R89); the rest of the list comes back. -/
def decodeBytes : List Byte → Option (Instr × List Byte)
  | b0 :: b1 :: b2 :: b3 :: rest =>
    match decode (wordOfBytes b0 b1 b2 b3) with
    | some i => some (i, rest)
    | none => none
  | _ => none

/-- The word of an opcode-table row given as a number, the bits above `nbits` zero. -/
def tableWord (nbits w : Nat) : Word := BitVec.ofNat 32 (w % 2 ^ nbits)

/-- What the decoder answers for an instruction whose bits are `w`, numbered as the opcode table numbers them:
the command is one 32-bit word and bit 0 is its least significant bit (R13, R80). -/
def decodeTableWord (nbits w : Nat) : Option Instr :=
  let word := tableWord nbits w
  match decodeBytes [byteOfWord word 0, byteOfWord word 1, byteOfWord word 2, byteOfWord word 3] with
  | some (i, _) => some i
  | none => none

end Sys2Proof
end

