-- ==== Sys2Proof/Machine/State.lean ====
section
/-! DEFINITION. The state record (10_state.md R20 to R40), the reasons a step can stop, and the state after reset
(70_reset_and_hazards.md R236). Plain data: no field is a function. -/

namespace Sys2Proof.Machine

/-- No fault exists: "The block has no synchronous traps: no operation and no command ever diverts control"
(60_exceptions.md R210); 93_implementation_defined.md: "Nothing in the block is treated as `fault` or `stuck`". -/
inductive Fault where
deriving DecidableEq, Repr

/-- Why the model gives no next state. -/
inductive Refusal where
  /-- Raised by an arm of `exec` whose instruction has no meaning in this model; none is left. Safe. -/
  | notModelled (mnemonic : String)
  /-- Raised by `step` when the configuration breaks a constraint of 00_scope.md R9 or R10: it "is not a
  configuration of the block at all" and "no rule says what" it does (46_homing_protocol.md R207,
  93_implementation_defined.md part 2: treatment `refuse`). Safe: the model stops (log 2). -/
  | configInvalid
deriving DecidableEq, Repr

/-- One debouncer channel, the pair `db_level[b]`, `db_count[b]` (10_state.md R40, 45_endstop_debouncer.md R190). -/
structure Channel where
  level : Bool
  count : Nat
deriving DecidableEq, Repr

/-- The slot memory (20_memory.md R60 item 2): (index, Move) pairs, indices strictly rising; an index not
listed has not been written since reset (log 8). -/
abbrev Memory := List (Nat × Move)

/-- The block state, and beside it the model's own fields. -/
structure State where
  /-- the configuration, a parameter of the step relation (R20); no step writes it (log 1) -/
  cfg : Config
  /-- R21 -/
  mv : Vector Word 16
  /-- R22 -/
  live : Bool
  /-- R22 -/
  stepNo : Word
  /-- R22 -/
  bres : Vector Word 8
  /-- R22 -/
  cur : Word
  /-- R22 -/
  phase : Phase
  /-- R22 -/
  rampN : Word
  /-- R22 -/
  cCruise : Word
  /-- R22 -/
  dsp : Bool
  /-- R25; 0..R-1 -/
  cnt : Nat
  /-- R26; 0..R-1 -/
  ocrA : Nat
  /-- R26 -/
  stepArmed : Bool
  /-- R27; 0..R-1 -/
  ocrB : Nat
  /-- R27 -/
  tickArmed : Bool
  /-- R28; below 2^32 unless DIR_SETUP_TICKS is not (log 10) -/
  nst : Nat
  /-- R29; 0..R-1 -/
  anchor : Nat
  /-- R30 -/
  sysTicks : Word
  /-- R30 -/
  tickBusy : Bool
  /-- R31 -/
  running : Bool
  /-- R31 -/
  estopped : Bool
  /-- R32 -/
  result : Result
  /-- R33 -/
  slots : Memory
  /-- R33; 0..2·CAP-1 -/
  head : Nat
  /-- R33; 0..2·CAP-1 -/
  tail : Nat
  /-- R34; bit a is the STEP line of axis a -/
  stepOut : BitVec 8
  /-- R35; 0..STEP_PULSE_TICKS -/
  pulseTimer : Nat
  /-- R36; bit a is the DIR line of axis a -/
  dirOut : BitVec 8
  /-- R37 -/
  drvEn : Bool
  /-- R38 -/
  pos : Vector Word 8
  /-- R40 -/
  db : Vector Channel 16
  /-- the model's: the number of the next draw of the endstop inputs (log 6) -/
  draws : Nat
  /-- the model's: what `ES b, v` has fixed, `none` where every draw is free (log 6) -/
  pins : Vector (Option Bool) 16
  /-- the model's: the value the last HOST_READ returned (log 7) -/
  readData : Word
  /-- the model's: what the host still has to do (log 5) -/
  program : List HostStmt
  /-- the model's: who moves next (log 3) -/
  schedule : List Turn
deriving DecidableEq, Repr

/-- The state after reset under a configuration (70_reset_and_hazards.md R236); the slot memory lists nothing
(log 8), and the model's own fields are at the values of logs 3, 5, 6, 7. -/
def State.resetWith (c : Config) : State where
  cfg := c
  mv := Vector.replicate 16 0
  live := false
  stepNo := 0
  bres := Vector.replicate 8 0
  cur := 0
  phase := .none
  rampN := 0
  cCruise := 0
  dsp := false
  cnt := 0
  ocrA := 0
  stepArmed := false
  ocrB := 0
  tickArmed := false
  nst := 0
  anchor := 0
  sysTicks := 0
  tickBusy := false
  running := false
  estopped := false
  result := .ok
  slots := []
  head := 0
  tail := 0
  stepOut := 0
  pulseTimer := 0
  dirOut := 0
  drvEn := false
  pos := Vector.replicate 8 0
  db := Vector.replicate 16 ⟨false, 0⟩
  draws := 0
  pins := Vector.replicate 16 none
  readData := 0
  program := []
  schedule := []

/-- The machine right after reset, under REFCFG (log 1). -/
def State.reset : State := State.resetWith Config.reference

end Sys2Proof.Machine
end

