-- ==== Sys2Proof/Machine/Ops.lean ====
section
/-! DEFINITION. The operations every family shares: modular and floor arithmetic (00_scope.md R13), the slot
memory (20_memory.md R60, R72), the answer of a command (30_encoding.md R90, 60_exceptions.md R210), the draw
of an endstop input (00_scope.md R14), the bounded axes and channels. -/

namespace Sys2Proof.Machine

/-! ### Arithmetic -/

/-- `(x - y) mod r`, "always in 0..r-1 even when x < y" (00_scope.md R13). -/
def subMod (r x y : Nat) : Nat := (x + (r - y % r)) % r

/-- `x div y`, floor division (R13); for `y = 0`, which the rules exclude, a free value (log 9). -/
def floorDiv (x y : Nat) : Nat := if y = 0 then Config.freeQuotient x else x / y

/-- A natural stored in a 32-bit register. The rules that store say it fits; the model wraps (log 11). -/
def word (n : Nat) : Word := BitVec.ofNat 32 n

/-! ### The slot memory -/

/-- The canonical form: indices strictly rising. No listed entry can equal what an unlisted index reads as,
since that is no Move (log 8). -/
def Memory.wf : Memory → Bool
  | [] => true
  | [_] => true
  | a :: b :: rest => decide (a.1 < b.1) && Memory.wf (b :: rest)

/-- The entry written at index `i`, if any. -/
def Memory.readSlot : Memory → Nat → Option Move
  | [], _ => none
  | (j, m) :: rest, i => if i = j then some m else Memory.readSlot rest i

/-- `slot[i] <- m` (00_scope.md R14), keeping the canonical form. -/
def Memory.writeSlot : Memory → Nat → Move → Memory
  | [], i, m => [(i, m)]
  | (j, n) :: rest, i, m =>
    if i < j then (i, m) :: (j, n) :: rest
    else if i = j then (i, m) :: rest
    else (j, n) :: Memory.writeSlot rest i m

/-- The Move that ring index `i` names: `slot[i mod CAP]` (43_move_queue.md R155). -/
def State.slotAt (s : State) (i : Nat) : Move :=
  let k := i % s.cfg.queueCapacity
  match Memory.readSlot s.slots k with
  | some m => m
  | none => Config.freeSlot k

/-- The live Move is `slot[head mod CAP]` (10_state.md R41 item 1), read at every use, not copied
(20_memory.md R72). -/
def State.liveMove (s : State) : Move := s.slotAt s.head

/-- The write of one slot entry by PUSH (43_move_queue.md R161). -/
def State.storeSlot (s : State) (i : Nat) (m : Move) : State :=
  { s with slots := Memory.writeSlot s.slots (i % s.cfg.queueCapacity) m }

/-- The next ring index, modulo 2·CAP (43_move_queue.md R155). -/
def nextIndex (c : Config) (i : Nat) : Nat := (i + 1) % c.ringMod

/-! ### The answer of a command

The block takes no exception: it saves no address and changes no mode (60_exceptions.md R210, R221, R223). What
stands in that place is the write of RESULT, which ends the command. -/

/-- The code of RESULT (30_encoding.md R90). -/
def resultCode : Result → BitVec 4
  | .ok => 0
  | .queueFullBlocked => 1
  | .notInit => 2
  | .eStopped => 3
  | .badMove => 4
  | .notIdle => 5
  | .busy => 6
  | .badCommand => 7

/-- `result <- c`: the command ends (00_scope.md R14). -/
def State.answer (s : State) (c : Result) : State := { s with result := c }

/-! ### Axes, endstop channels, endstop inputs -/

/-- The axes `0..N_AXES-1` (00_scope.md R10). -/
def presentAxes (c : Config) : List (Fin 8) := (List.finRange 8).filter fun a => decide (a.val < c.nAxes)

/-- Channel `b` takes part in a move: `b < 2·N_AXES` and `esmask[b] = 1` (42_dda_engine.md R136, R140). -/
def watched (c : Config) (m : Move) (b : Fin 16) : Bool := decide (b.val < 2 * c.nAxes) && m.esmask.getLsbD b.val

/-- `es_in(b)` at the current draw: the fixed level, or a free value (00_scope.md R14, log 6). -/
def State.esIn (s : State) (b : Fin 16) : Bool :=
  match s.pins[b] with
  | some v => v
  | none => Config.freeEndstop s.draws b.val

/-- The current draw of the inputs has been used: the next call of `es_in` is a fresh one (log 6). -/
def State.nextDraw (s : State) : State := { s with draws := s.draws + 1 }

/-- The engine flags and the pulse that both INIT and ESTOP clear (44_controller_commands.md R177, R178). -/
def State.clearEngine (s : State) : State :=
  { s with live := false, dsp := false, phase := .none, rampN := 0, stepOut := 0, pulseTimer := 0 }

end Sys2Proof.Machine
end

