-- ==== Sys2Proof/Machine/Debouncer.lean ====
section
/-! DEFINITION. endstop_debouncer (45_endstop_debouncer.md R191 to R193): DB_INIT, DB_SAMPLE, and the sampling
of all channels a move watches. -/

namespace Sys2Proof.Machine

/-- `DB_INIT(b)` on a channel whose input answers `raw` (R191). -/
def dbInit (raw : Bool) : Channel := ⟨raw, 0⟩

/-- `DB_SAMPLE(b)` on a channel whose input answers `raw` (R192): the channel after it, and whether it answers
`changed`. -/
def dbSample (c : Config) (raw : Bool) (ch : Channel) : Channel × Bool :=
  if raw = ch.level then ({ ch with count := 0 }, false)
  else if c.debounceSamples ≤ ch.count + 1 then (⟨raw, 0⟩, true)
  else ({ ch with count := ch.count + 1 }, false)

/-- LOAD's loop of DB_INIT over the channels the move watches (42_dda_engine.md R136). The inputs are one draw
each (log 6). -/
def initWatched (m : Move) (s : State) : State :=
  { s with db := Vector.ofFn fun b => if watched s.cfg m b then dbInit (s.esIn b) else s.db[b] }.nextDraw

/-- Channel `b` is a hit: it answers `changed` and its new level is `escond` (R193). -/
def isHit (m : Move) (s : State) (b : Fin 16) : Bool :=
  let r := dbSample s.cfg (s.esIn b) s.db[b]
  watched s.cfg m b && r.2 && r.1.level == m.escond

/-- STEP part 3's loop (42_dda_engine.md R140): every watched channel is sampled, no early exit; whether one of
them is a hit, and the state after the samples. -/
def sampleWatched (m : Move) (s : State) : Bool × State :=
  ((List.finRange 16).any fun b => isHit m s b,
   { s with db := Vector.ofFn fun b =>
      if watched s.cfg m b then (dbSample s.cfg (s.esIn b) s.db[b]).1 else s.db[b] }.nextDraw)

end Sys2Proof.Machine
end

