-- ==== Sys2Proof/Machine/Profiler.lean ====
section
/-! DEFINITION. velocity_profiler_trapezoid (41_velocity_profiler.md R121 to R125): PHASE_OF, CRUISE_INTERVAL, CLAMP,
FIRST_INTERVAL, NEXT_INTERVAL. Every value is an exact natural; only the clamped result is stored (R130). -/

namespace Sys2Proof.Machine

/-- `PHASE_OF(m, k)` (R121): the phase of the interval from step k to step k+1. -/
def phaseOf (m : Move) (k : Nat) : Phase :=
  if k < m.accelUntilStep.toNat then .accel
  else if k < m.decelFromStep.toNat then .cruise
  else .decel

/-- `CRUISE_INTERVAL(m)` (R122): `CPU_FREQ div nominal_rate`. -/
def cruiseInterval (c : Config) (m : Move) : Word := word (floorDiv c.cpuFreq m.nominalRate.toNat)

/-- `CLAMP(v)` (R123): `min(max(v, MIN_STEP_TICKS), 2^32 - 1)`. -/
def clamp (c : Config) (v : Nat) : Word := word (min (max v c.minStepTicks) (2 ^ 32 - 1))

/-- The ACCEL step of the recurrence: `c - (2c) div (4n + 1)` (R125, R128). -/
def accelNext (c n : Nat) : Nat := c - floorDiv (2 * c) (4 * n + 1)

/-- The DECEL step, its mirror: `c + (2c) div (4r - 1)`, r = steps remaining (R125). -/
def decelNext (c r : Nat) : Nat := c + floorDiv (2 * c) (4 * r - 1)

/-- `FIRST_INTERVAL(m)` (R124), called by LOAD: the interval, and the state with `c_cruise`, `phase`, `ramp_n`. -/
def firstInterval (m : Move) (s : State) : Word × State :=
  let cruise := cruiseInterval s.cfg m
  let p := phaseOf m 0
  let s := { s with cCruise := cruise, phase := p }
  if p = .accel then (clamp s.cfg m.c0.toNat, { s with rampN := 0 })
  else if p = .cruise then (clamp s.cfg cruise.toNat, { s with rampN := 0 })
  else (clamp s.cfg (decelNext cruise.toNat m.totalSteps.toNat), { s with rampN := m.totalSteps })

/-- `NEXT_INTERVAL` (R125), called by STEP after `step_no` was updated: the interval, `end_of_move` (R127), and
the state with `phase` and `ramp_n`. -/
def nextInterval (s : State) : Word × Bool × State :=
  let m := s.liveMove
  let k := s.stepNo.toNat
  let t := m.totalSteps.toNat
  if k = t then (s.cur, true, s)
  else
    let p := phaseOf m k
    let s := { s with phase := p }
    if p = .accel then (clamp s.cfg (accelNext s.cur.toNat k), false, { s with rampN := word k })
    else if p = .cruise then (clamp s.cfg s.cCruise.toNat, false, { s with rampN := 0 })
    else (clamp s.cfg (decelNext s.cur.toNat (t - k)), false, { s with rampN := word (t - k) })

end Sys2Proof.Machine
end

