-- ==== Sys2Proof/Machine/Flags.lean ====
section
/-! DEFINITION. The derived quantities of the ring (43_move_queue.md R156, R157) and the STATUS word
(30_encoding.md R91). -/

namespace Sys2Proof.Machine

/-- `qlen = (tail - head) mod 2·CAP` (R156). -/
def State.qlen (s : State) : Nat := subMod s.cfg.ringMod s.tail s.head

/-- `empty` is `head = tail` (R156). -/
def State.queueEmpty (s : State) : Bool := s.head == s.tail

/-- `full` is `qlen = CAP` (R156). -/
def State.queueFull (s : State) : Bool := s.qlen == s.cfg.queueCapacity

/-- `idle` is `head = tail and live = 0` (R157). -/
def State.idle (s : State) : Bool := s.queueEmpty && !s.live

/-- `quiescent`: idle and no pulse on the lines (70_reset_and_hazards.md R243). -/
def State.quiescent (s : State) : Bool := s.idle && s.pulseTimer == 0

/-- The numeric encoding of `phase` (10_state.md R22). -/
def phaseCode : Phase → BitVec 2
  | .none => 0
  | .accel => 1
  | .cruise => 2
  | .decel => 3

/-- Format S, from bit 31 down to bit 0 (30_encoding.md R91). -/
def State.statusWord (s : State) : Word :=
  s.dirOut ++ s.stepOut ++ 0#2 ++ phaseCode s.phase ++ 0#1 ++ BitVec.ofBool s.drvEn ++ BitVec.ofBool s.dsp ++
    BitVec.ofBool s.tickBusy ++ BitVec.ofBool s.tickArmed ++ BitVec.ofBool s.stepArmed ++
    BitVec.ofBool s.queueEmpty ++ BitVec.ofBool s.queueFull ++ BitVec.ofBool s.idle ++ BitVec.ofBool s.live ++
    BitVec.ofBool s.estopped ++ BitVec.ofBool s.running

end Sys2Proof.Machine
end

