-- ==== Sys2Proof/Machine/Timer.lean ====
section
/-! DEFINITION. The operations of dual_compare_timer_scheduler that do not run the DDA (40_timer_scheduler.md R102
to R111): TIMER_INIT, SCHED, WRAP_FIRE, CMPB, TICK_BODY_END, STOP. -/

namespace Sys2Proof.Machine

/-- What SCHED returns (R103). -/
inductive SchedAnswer where
  | scheduled
  | tooShort
deriving DecidableEq, Repr

/-- The short-request check (R104): `((cnt - anchor) mod R) + SAFE_ISR_CYCLES > delay`. -/
def State.shortRequest (s : State) (delay : Nat) : Bool :=
  decide (delay < subMod s.cfg.range s.cnt s.anchor + s.cfg.safeIsrCycles)

/-- SCHED after the check: the three branches of the large-delay trick (R103), exact (R13). The enable is the last write.
The operand and `nst` are 32 bits wide (R28) in every configuration whose no-op interval is (log 10). -/
def State.arm (s : State) (delay : Nat) : State :=
  let r := s.cfg.range
  let g := s.cfg.counterGuard
  { s with
    nst := if delay < r then delay else if delay < r + g then delay + g else delay
    ocrA := if delay < r then (s.anchor + delay) % r
            else if delay < r + g then subMod r s.anchor g
            else s.anchor
    stepArmed := true }

/-- `SCHED(delay, check_short)` (R103): TooShort writes nothing. -/
def sched (delay : Nat) (checkShort : Bool) (s : State) : SchedAnswer × State :=
  if checkShort && s.shortRequest delay then (.tooShort, s) else (.scheduled, s.arm delay)

/-- `call SCHED(delay, 0)`, as every rule of the block calls it (R104). -/
def callSched (delay : Nat) (s : State) : State := (sched delay false s).2

/-- TIMER_INIT (R102). -/
def timerInit (s : State) : State :=
  { s with running := true, ocrB := (s.cnt + s.cfg.tickTime) % s.cfg.range, tickArmed := true,
           stepArmed := false, nst := 0 }

/-- STOP (R111). -/
def stop (s : State) : State := { s with stepArmed := false, tickArmed := false }

/-- WRAP_FIRE (R107). -/
def wrapFire (s : State) : State :=
  let r := s.cfg.range
  let g := s.cfg.counterGuard
  let left := s.nst - r
  { s with
    nst := if left < r then left else if left < r + g then left + g else left
    ocrA := if left < r then (s.ocrA + left) % r else if left < r + g then subMod r s.ocrA g else s.ocrA }

/-- CMPB, the tick service (R109). The body it starts changes nothing else and ends in TICK_BODY_END; with the
latch set the body is skipped, so the latch is 1 afterwards either way. -/
def cmpB (s : State) : State :=
  { s with
    ocrB := (s.ocrB + s.cfg.tickTime) % s.cfg.range
    sysTicks := s.sysTicks + 1
    tickBusy := if s.tickBusy then s.tickBusy else true }

/-- TICK_BODY_END (R110), enabled if `tick_busy = 1`; a turn given to the tick body while it is not enabled
changes nothing (log 4). -/
def tickBodyEnd (s : State) : State := if s.tickBusy then { s with tickBusy := false } else s

end Sys2Proof.Machine
end

