-- ==== Sys2Proof/Machine/Dda.lean ====
section
/-! DEFINITION. DDA_stepper_engine (42_dda_engine.md R136 to R144): LOAD, DDA_FIRE, STEP in its parts, COMPLETE.
The live Move is read from its slot at every use (20_memory.md R72). -/

namespace Sys2Proof.Machine

/-- The length of the no-op interval, `max(DIR_SETUP_TICKS, MIN_STEP_TICKS)` (R137), exact however long (log 10). -/
def noopInterval (c : Config) : Nat := max c.dirSetupTicks c.minStepTicks

/-- LOAD of a dwell: `cur <- max(c0, MIN_STEP_TICKS)` and one real fire after it (R136, 43_move_queue.md R160). -/
def loadDwell (m : Move) (s : State) : State :=
  let cur := word (max m.c0.toNat s.cfg.minStepTicks)
  callSched cur.toNat { s with phase := .none, rampN := 0, cur := cur }

/-- LOAD of a Move that is not a dwell: the DIR lines, the debouncer, the first interval, and a no-op interval
first if the directions change (R136, R137). -/
def loadSteps (m : Move) (s : State) : State :=
  let r := firstInterval m (initWatched m { s with dirOut := m.dir })
  let t := { r.2 with cur := r.1 }
  if s.dirOut ≠ m.dir then callSched (noopInterval t.cfg) { t with dsp := true } else callSched r.1.toNat t

/-- LOAD (R136): the Move at the head of the ring becomes the live Move. -/
def load (s : State) : State :=
  let m := s.liveMove
  let s := { s with live := true, stepNo := 0, dsp := false, bres := Vector.replicate 8 (m.totalSteps / 2) }
  if m.dwell then loadDwell m s else loadSteps m s

/-- COMPLETE (R144): the slot is freed, and the next Move, if there is one, is loaded in the same real fire. -/
def complete (s : State) : State :=
  let s := { s with head := nextIndex s.cfg s.head, live := false, phase := .none, rampN := 0 }
  if s.head ≠ s.tail then load s else s

/-! ### STEP part 1 (R139) -/

/-- `bres[a] + delta[a]`, exact. -/
def bresSum (m : Move) (s : State) (a : Fin 8) : Nat := s.bres[a].toNat + m.delta[a].toNat

/-- Axis `a` pulses in this step: it exists and its sum reaches `total_steps`. -/
def pulses (m : Move) (s : State) (a : Fin 8) : Bool :=
  decide (a.val < s.cfg.nAxes) && decide (m.totalSteps.toNat ≤ bresSum m s a)

/-- `bres[a]` after the step; axes that do not exist are left alone. -/
def bresAfter (m : Move) (s : State) (a : Fin 8) : Word :=
  if a.val < s.cfg.nAxes then
    word (if pulses m s a then bresSum m s a - m.totalSteps.toNat else bresSum m s a)
  else s.bres[a]

/-- `pos[a]` after the step: one count in the latched direction per pulse, modulo 2^32. -/
def posAfter (m : Move) (s : State) (a : Fin 8) : Word :=
  if pulses m s a then (if s.dirOut.getLsbD a.val then s.pos[a] - 1 else s.pos[a] + 1) else s.pos[a]

/-- STEP part 1: Bresenham, the STEP lines and the pulse timer (R139, R142). -/
def stepPulses (m : Move) (s : State) : State :=
  { s with
    bres := Vector.ofFn fun a => bresAfter m s a
    pos := Vector.ofFn fun a => posAfter m s a
    stepOut := BitVec.ofFnLE fun a => pulses m s a
    pulseTimer := s.cfg.stepPulseTicks }

/-! ### STEP parts 3 to 5 (R140, R141) -/

/-- Parts 3 and 4: the endstops, then `step_no <- T` on a hit, else `step_no + 1` (R140). -/
def stepEndstops (m : Move) (s : State) : State :=
  let r := sampleWatched m s
  { r.2 with stepNo := if r.1 then m.totalSteps else s.stepNo + 1 }

/-- Part 5: the next interval, or the end of the move (R141). -/
def stepNext (s : State) : State :=
  let r := nextInterval s
  if r.2.1 then complete r.2.2 else callSched r.1.toNat { r.2.2 with cur := r.1 }

/-- STEP: the parts in order (R143); part 2, the pulse width, is `pulse_timer` (R142). -/
def stepDda (s : State) : State :=
  let m := s.liveMove
  stepNext (stepEndstops m (stepPulses m s))

/-- DDA_FIRE (R138). -/
def ddaFire (s : State) : State :=
  if s.live then
    if s.dsp then callSched s.cur.toNat { s with dsp := false }
    else if s.liveMove.dwell then complete s
    else stepDda s
  else s

end Sys2Proof.Machine
end

