-- ==== Sys2Proof/Machine/Counter.lean ====
section
/-! DEFINITION. The counter agent (40_timer_scheduler.md R101, R106, R112): TICK and the step service CMPA. -/

namespace Sys2Proof.Machine

/-- CMPA at a real fire (R106): the compare is disarmed and the anchor moved before the DDA runs. -/
def realFire (s : State) : State := ddaFire { s with anchor := s.ocrA, nst := 0, stepArmed := false }

/-- CMPA, the step service (R106): a real fire if `nst < R`, else a wrap fire. -/
def cmpA (s : State) : State := if s.nst < s.cfg.range then realFire s else wrapFire s

/-- The first two statements of TICK (R101): the counter, and the end of the STEP pulse. -/
def countTick (s : State) : State :=
  { s with
    cnt := (s.cnt + 1) % s.cfg.range
    pulseTimer := s.pulseTimer - 1
    stepOut := if s.pulseTimer = 1 then 0 else s.stepOut }

/-- `matchA`: the step compare is armed and equals the counter (R26, R101). -/
def State.matchA (s : State) : Bool := s.stepArmed && s.cnt == s.ocrA

/-- `matchB`: the tick compare is armed and equals the counter (R27, R101). -/
def State.matchB (s : State) : Bool := s.tickArmed && s.cnt == s.ocrB

/-- TICK (R101), enabled while `running = 1`; else time passes and nothing changes. The step service runs
before the tick service (R112). -/
def tick (s : State) : State :=
  if s.running then
    let s := countTick s
    let s := if s.matchA then cmpA s else s
    if s.matchB then cmpB s else s
  else s

end Sys2Proof.Machine
end

