-- ==== Sys2Proof/Machine/Operands.lean ====
section
/-! DEFINITION. Operand assembly (30_encoding.md R83 to R86): the descriptor in the staging registers, its
validation VALID (43_move_queue.md R159), its stored form DECODE_MOVE (R163), and the position block. -/

namespace Sys2Proof.Machine

/-! ### Format M: the fields of the staging registers (30_encoding.md R84, R86) -/

def mvDir (mv : Vector Word 16) : BitVec 8 := mv[0].extractLsb' 0 8
def mvDwell (mv : Vector Word 16) : Bool := mv[0].getLsbD 8
def mvReserved (mv : Vector Word 16) : BitVec 23 := mv[0].extractLsb' 9 23
def mvTotalSteps (mv : Vector Word 16) : Word := mv[1]
def mvNominalRate (mv : Vector Word 16) : Word := mv[2]
def mvAccelRate (mv : Vector Word 16) : Word := mv[3]
def mvDecelRate (mv : Vector Word 16) : Word := mv[4]
def mvAccelUntil (mv : Vector Word 16) : Word := mv[5]
def mvDecelFrom (mv : Vector Word 16) : Word := mv[6]
def mvC0 (mv : Vector Word 16) : Word := mv[7]
/-- `MV[8+a]`: `delta[a]` in format M, the new `pos[a]` in format P. -/
def mvAxis (mv : Vector Word 16) (a : Fin 8) : Word := mv[8 + a.val]

/-- `DECODE_MOVE(MV, esmask, escond)` (43_move_queue.md R163): a copy. -/
def decodeMove (mv : Vector Word 16) (esmask : BitVec 16) (escond : Bool) : Move where
  dir := mvDir mv
  dwell := mvDwell mv
  totalSteps := mvTotalSteps mv
  nominalRate := mvNominalRate mv
  accelRate := mvAccelRate mv
  decelRate := mvDecelRate mv
  accelUntilStep := mvAccelUntil mv
  decelFromStep := mvDecelFrom mv
  c0 := mvC0 mv
  delta := Vector.ofFn fun a => mvAxis mv a
  esmask := esmask
  escond := escond

/-- Format M of a Move, the sixteen words that `STAGE m` writes (30_encoding.md R84, R93). -/
def encodeMove (m : Move) : Vector Word 16 :=
  #v[0#23 ++ BitVec.ofBool m.dwell ++ m.dir, m.totalSteps, m.nominalRate, m.accelRate, m.decelRate,
    m.accelUntilStep, m.decelFromStep, m.c0, m.delta[0], m.delta[1], m.delta[2], m.delta[3], m.delta[4],
    m.delta[5], m.delta[6], m.delta[7]]

/-! ### VALID (43_move_queue.md R159) -/

/-- `max(delta[0..N_AXES-1])`. -/
def maxDelta (c : Config) (mv : Vector Word 16) : Nat :=
  (presentAxes c).foldl (fun acc a => max acc (mvAxis mv a).toNat) 0

/-- No delta on an axis that does not exist. -/
def absentAxesStill (c : Config) (mv : Vector Word 16) : Bool :=
  (List.finRange 8).all fun a => decide (a.val < c.nAxes) || mvAxis mv a == 0

/-- The line `common` of R159. -/
def validCommon (c : Config) (mv : Vector Word 16) : Bool :=
  mvReserved mv == 0 && mvDir mv >>> c.nAxes == 0 && absentAxesStill c mv

/-- The lines of a dwell. -/
def validDwell (mv : Vector Word 16) (home : Bool) : Bool :=
  !home && mvTotalSteps mv == 0 && ((List.finRange 8).all fun a => mvAxis mv a == 0) &&
    mvAccelUntil mv == 0 && mvDecelFrom mv == 0

/-- The lines of a Move that is not a dwell. -/
def validSteps (c : Config) (mv : Vector Word 16) : Bool :=
  decide (1 ≤ (mvTotalSteps mv).toNat) && (mvTotalSteps mv).toNat == maxDelta c mv &&
    decide ((mvAccelUntil mv).toNat ≤ (mvDecelFrom mv).toNat) &&
    decide ((mvDecelFrom mv).toNat ≤ (mvTotalSteps mv).toNat) && decide (1 ≤ (mvNominalRate mv).toNat)

/-- The line `home = 1`: no mask bit at or above 2·N_AXES. -/
def validHome (c : Config) (home : Bool) (esmask : BitVec 16) : Bool :=
  !home || esmask >>> (2 * c.nAxes) == 0

/-- `VALID(MV, home)`. -/
def valid (c : Config) (mv : Vector Word 16) (home : Bool) (esmask : BitVec 16) : Bool :=
  validCommon c mv && (if mvDwell mv then validDwell mv home else validSteps c mv) && validHome c home esmask

end Sys2Proof.Machine
end

