-- ==== Sys2Proof/Machine/Controller.lean ====
section
/-! DEFINITION. The controller commands (44_controller_commands.md R176 to R180): SETPOS, INIT, ESTOP, NOP, and
the answer to a reserved word. -/

namespace Sys2Proof.Machine

/-- NOP (R179). -/
def execNop (s : State) : Host.Outcome State Fault Refusal := .next (s.answer .ok)

/-- INIT is refused: running, no ESTOP before, and a move live or queued (R177). -/
def State.initBusy (s : State) : Bool := s.running && !s.estopped && !s.idle

/-- The accepted branch of INIT (R177). -/
def initEffect (s : State) : State := { timerInit s with estopped := false, drvEn := true }.clearEngine

/-- INIT (R177). -/
def execInit (s : State) : Host.Outcome State Fault Refusal :=
  .next (if s.initBusy then s.answer .busy else (initEffect s).answer .ok)

/-- The effect of ESTOP (R178). -/
def estopEffect (s : State) : State :=
  { stop s with nst := 0, head := s.tail, drvEn := false, estopped := true }.clearEngine

/-- ESTOP (R178): never refused. -/
def execEstop (s : State) : Host.Outcome State Fault Refusal := .next ((estopEffect s).answer .ok)

/-- The accepted branch of SETPOS: `pos[a] <- MV[8+a]` for the axes that exist (R176). -/
def setPositions (s : State) : State :=
  { s with pos := Vector.ofFn fun a => if a.val < s.cfg.nAxes then mvAxis s.mv a else s.pos[a] }

/-- SETPOS (R176). -/
def execSetpos (s : State) : Host.Outcome State Fault Refusal :=
  .next (if s.idle then (setPositions s).answer .ok else s.answer .notIdle)

/-- RESERVED (R180): a word that selects no row. -/
def reservedCommand (s : State) : State := s.answer .badCommand

end Sys2Proof.Machine
end

