-- ==== Sys2Proof/Machine/Queue.lean ====
section
/-! DEFINITION. The producer's commands PUSH and PUSH_HOME (43_move_queue.md R161, R162). -/

namespace Sys2Proof.Machine

/-- The accepted branch of R161: write the slot, publish, start an idle engine. -/
def enqueue (m : Move) (s : State) : State :=
  let s := s.storeSlot s.tail m
  let s := { s with tail := nextIndex s.cfg s.tail }
  if s.live then s else load { s with anchor := s.cnt }

/-- The tests of R161 in their order; the first that fails decides the result and nothing else changes
(60_exceptions.md R212). -/
def pushCommand (home : Bool) (esmask : BitVec 16) (escond : Bool) (s : State) : State :=
  if !s.running then s.answer .notInit
  else if s.estopped then s.answer .eStopped
  else if !valid s.cfg s.mv home esmask then s.answer .badMove
  else if s.queueFull then s.answer .queueFullBlocked
  else (enqueue (decodeMove s.mv esmask escond) s).answer .ok

/-- PUSH (R161). -/
def execPush (s : State) : Host.Outcome State Fault Refusal := .next (pushCommand false 0 false s)

/-- PUSH_HOME (R162): `VALID(MV, 1)`, and the Move carries `esmask` and `escond = sot`. -/
def execPushHome (esmask : BitVec 16) (sot : Bool) (s : State) : Host.Outcome State Fault Refusal :=
  .next (pushCommand true esmask sot s)

end Sys2Proof.Machine
end

