-- ==== Sys2Proof/Machine/Dispatch.lean ====
section
/-! DEFINITION. COMMAND's branches (44_controller_commands.md R175): one arm per command. -/

namespace Sys2Proof.Machine

def exec (i : Instr) (s : State) : Host.Outcome State Fault Refusal :=
  match i with
  | .nop => Sys2Proof.Machine.execNop s
  | .init => Sys2Proof.Machine.execInit s
  | .push => Sys2Proof.Machine.execPush s
  | .pushHome esmask sot => Sys2Proof.Machine.execPushHome esmask sot s
  | .estop => Sys2Proof.Machine.execEstop s
  | .setpos => Sys2Proof.Machine.execSetpos s

end Sys2Proof.Machine
end

