-- ==== Sys2Proof/Machine/HostPort.lean ====
section
/-! DEFINITION. The host port (20_memory.md R60 to R67): the register map, HOST_WRITE, HOST_READ, and the view
from a byte-addressed bus. -/

namespace Sys2Proof.Machine

/-- The ES word (R61): bits 15:0 the debounced levels, bits 31:16 the raw inputs drawn at the read, inputs at
or above 2·N_AXES reading 0. -/
def State.esWord (s : State) : Word :=
  (BitVec.ofFnLE fun b : Fin 16 => decide (b.val < 2 * s.cfg.nAxes) && s.esIn b) ++
    (BitVec.ofFnLE fun b : Fin 16 => s.db[b].level)

/-- A natural read through a 32-bit register: zero-extended (R61). Where it does not fit, which only the ring indices
and `qlen` of a QUEUE_CAPACITY above 2^31 and `nst` of a DIR_SETUP_TICKS of 2^32 or more can do, the spec does not say what is read: a free value (log 18). -/
def portWord (n : Nat) : Word := if n < 2 ^ 32 then word n else Config.freeRead n

/-- The value of a register (R61), zero-extended; reserved indices and the write-only CMD read 0. QLEN, QHEAD, QTAIL and
NST are free values where their value does not fit (log 18). -/
def State.readReg (s : State) (a : BitVec 6) : Word :=
  let n := a.toNat
  if a = Port.result then (resultCode s.result).setWidth 32
  else if a = Port.status then s.statusWord
  else if a = Port.qlen then portWord s.qlen
  else if a = Port.qhead then portWord s.head
  else if a = Port.qtail then portWord s.tail
  else if a = Port.cnt then word s.cnt
  else if a = Port.ocrA then word s.ocrA
  else if a = Port.ocrB then word s.ocrB
  else if a = Port.nst then portWord s.nst
  else if a = Port.anchor then word s.anchor
  else if a = Port.sysTicks then s.sysTicks
  else if a = Port.stepNo then s.stepNo
  else if a = Port.totalSteps then (if s.live then s.liveMove.totalSteps else 0)
  else if a = Port.curInterval then s.cur
  else if a = Port.rampN then s.rampN
  else if a = Port.es then s.esWord
  else if 0x18 ≤ n ∧ n ≤ 0x1F then s.pos.getD (n - 0x18) 0
  else if 0x20 ≤ n ∧ n ≤ 0x27 then s.bres.getD (n - 0x20) 0
  else if 0x30 ≤ n then s.mv.getD (n - 0x30) 0
  else 0

/-- HOST_READ (R63): the value goes to the host (log 7); the block's state is unchanged. Only a read of ES
draws the inputs. -/
def hostRead (a : BitVec 6) (s : State) : State :=
  let t := { s with readData := s.readReg a }
  if a = Port.es then t.nextDraw else t

/-- COMMAND (44_controller_commands.md R175): the command the word encodes, or BadCommand. -/
def command (w : Word) (s : State) : Host.Outcome State Fault Refusal :=
  match decode w with
  | some i => exec i s
  | none => .next (reservedCommand s)

/-- HOST_WRITE (R62): CMD runs a command, MV0 to MV15 store, any other index changes nothing. -/
def hostWrite (a : BitVec 6) (v : Word) (s : State) : Host.Outcome State Fault Refusal :=
  if a = Port.cmd then command v s
  else if 0x30 ≤ a.toNat then .next { s with mv := s.mv.setIfInBounds (a.toNat - 0x30) v }
  else .next s

/-! ### The byte-addressed view (00_scope.md R14, 20_memory.md R64, R65) -/

/-- The word index of a bus access: byte address 4·a, size 4, a ≤ 0x3F; anything else "is outside the block"
and a bridge refuses it (R65). -/
def busIndex (byteAddress size : Nat) : Option (BitVec 6) :=
  if size = 4 ∧ byteAddress % 4 = 0 ∧ byteAddress < 256 then some (BitVec.ofNat 6 (byteAddress / 4)) else none

/-- `MemWrite(a, size, v)` as a host statement (R14). -/
def memWrite (byteAddress size : Nat) (v : Word) : Option HostStmt :=
  (busIndex byteAddress size).map fun a => .wr a v

/-- `MemRead(a, size)` as a host statement (R14). -/
def memRead (byteAddress size : Nat) : Option HostStmt := (busIndex byteAddress size).map .rd

end Sys2Proof.Machine
end

