-- ==== Sys2Proof/Machine/Transition.lean ====
section
/-! DEFINITION. One turn of each agent (00_scope.md R15, R17): the host's next access, TICK, TICK_BODY_END, the
script's `ES b, v`, and reset. -/

namespace Sys2Proof.Machine

/-- The host's turn: its next statement (30_encoding.md R92, R93; log 5, log 12). -/
def hostTurn (s : State) : Host.Outcome State Fault Refusal :=
  match s.program with
  | [] => .next s
  | .wr a v :: rest => hostWrite a v { s with program := rest }
  | .rd a :: rest => .next (hostRead a { s with program := rest })
  | .wrLast a :: rest => hostWrite a s.readData { s with program := rest }
  | .retryPush w :: rest => hostWrite Port.cmd w { s with program := .retryCheck w :: rest }
  | .retryCheck w :: rest =>
    let t := hostRead Port.result s
    .next { t with program := if t.readData = 1 then .retryPush w :: rest else rest }
  | .waitIdle :: rest =>
    let t := hostRead Port.status s
    .next { t with program := if t.readData.getLsbD 3 then rest else .waitIdle :: rest }
  | .skipUnless bit n :: rest =>
    .next { s with program := if s.readData.getLsbD bit.val then rest else rest.drop n }

/-- `ES b, v`: from here on `es_in(b)` answers v (30_encoding.md R92). -/
def fixInput (b : Fin 16) (v : Bool) (s : State) : State := { s with pins := s.pins.set b.val (some v) }

/-- Reset from outside (70_reset_and_hazards.md R235, R236). The configuration "is not reset"; the host and the
environment are not the block's, so what the model holds of them stays (log 14). -/
def applyReset (s : State) : State :=
  { State.resetWith s.cfg with
    draws := s.draws, pins := s.pins, readData := s.readData, program := s.program, schedule := s.schedule }

/-- One turn of an agent. -/
def turn (g : Agent) (s : State) : Host.Outcome State Fault Refusal :=
  match g with
  | .host => hostTurn s
  | .counter => .next (tick s)
  | .tickBody => .next (tickBodyEnd s)
  | .environment b v => .next (fixInput b v s)
  | .reset => .next (applyReset s)

/-- What the schedule holds after the host's next turn within a `hostStatement` entry (log 12): the `RD RESULT` of the
`ENQ` loop follows its CMD write at once; a loop that has to go round lets one TICK pass first, since it "ends only through
transitions of the counter agent" (30_encoding.md R93); any other statement is over. -/
def hostStatementRest (s : State) (rest : List Turn) : List Turn :=
  match s.program with
  | .retryPush _ :: _ => .hostStatement :: rest
  | .retryCheck _ :: _ =>
    if s.result = .queueFullBlocked then .agent .counter :: .hostStatement :: rest else rest
  | .waitIdle :: _ => if s.idle then rest else .agent .counter :: .hostStatement :: rest
  | _ => rest

/-- Who moves, and the state with that turn taken off the schedule (log 3). With no entry left the host is silent: a tick
body that is running ends, so that it "is not postponed for ever" (40_timer_scheduler.md R110; log 16), and else the
counter moves. -/
def nextAgent (s : State) : Agent × State :=
  match s.schedule with
  | [] => (if s.tickBusy then .tickBody else .counter, s)
  | .agent g :: rest => (g, { s with schedule := rest })
  | .hostStatement :: rest => (.host, { s with schedule := hostStatementRest s rest })

/-- One transition of the machine. -/
def transition (s : State) : Host.Outcome State Fault Refusal := turn (nextAgent s).1 (nextAgent s).2

end Sys2Proof.Machine
end

