-- ==== Sys2Proof/Machine/Step.lean ====
section
/-! DEFINITION. The step of the machine, and the placing of one command where the next step runs it. -/

namespace Sys2Proof.Machine

/-- One step: the next agent's transition (00_scope.md R15). A configuration that breaks a constraint is "not a
configuration of the block" (70_reset_and_hazards.md R248) and is refused (log 2). -/
def step (s : State) : Host.Outcome State Fault Refusal :=
  if s.cfg.WellFormed then transition s else .refused .configInvalid

/-- `s` with one command placed so that the very next step runs it: the host's next statement writes its word to
CMD, and the next turn is the host's (log 5). -/
def State.withFetchWord (s : State) (nbits w : Nat) : State :=
  { s with program := .wr Port.cmd (tableWord nbits w) :: s.program, schedule := .agent .host :: s.schedule }

end Sys2Proof.Machine
end

