-- ==== Sys2Proof/Machine/Script.lean ====
section
/-! DEFINITION. Host and test scripts (30_encoding.md R92, R93) and the host's homing sequence
(46_homing_protocol.md R200 to R206), as host statements and turns. No rule of the block reads this file. -/

namespace Sys2Proof.Machine

/-! ### Pseudo-statements (R93) -/

/-- `STAGE m`: sixteen writes. -/
def stage (m : Move) : List HostStmt := (List.finRange 16).map fun k => .wr (Port.mv k) (encodeMove m)[k]

/-- `ENQ m`. -/
def enq (m : Move) : List HostStmt := stage m ++ [.retryPush (encode .push)]

/-- `ENQ_HOME m, esmask, sot`. -/
def enqHome (m : Move) (esmask : BitVec 16) (sot : Bool) : List HostStmt :=
  stage m ++ [.retryPush (encode (.pushHome esmask sot))]

/-- `SET_POSITION p`. -/
def setPosition (c : Config) (p : Vector Word 8) : List HostStmt :=
  (presentAxes c).map (fun a => .wr (BitVec.ofNat 6 (0x38 + a.val)) p[a]) ++ [.wr Port.cmd (encode .setpos)]

/-- `QUEUE_LENGTH`. -/
def queueLength : List HostStmt := [.rd Port.qlen]

/-- `IS_IDLE`: bit 3 of the value read. -/
def isIdle : List HostStmt := [.rd Port.status]

/-- `EMERGENCY_STOP`. -/
def emergencyStop : List HostStmt := [.wr Port.cmd (encode .estop)]

/-! ### Scripts (R92, R93) -/

/-- One line of a script, with the pseudo-statements of R93. -/
inductive ScriptStmt where
  /-- `WR reg, value` -/
  | wr (a : BitVec 6) (v : Word)
  /-- `RD reg` -/
  | rd (a : BitVec 6)
  /-- `CMD mnemonic`, `CMD PUSH_HOME esmask, sot` -/
  | cmd (i : Instr)
  /-- `TICKS n` -/
  | ticks (n : Nat)
  /-- `ES b, v` -/
  | es (b : Fin 16) (v : Bool)
  /-- `BODY_END` -/
  | bodyEnd
  /-- `STAGE m` -/
  | stage (m : Move)
  /-- `ENQ m` -/
  | enq (m : Move)
  /-- `ENQ_HOME m, esmask, sot` -/
  | enqHome (m : Move) (esmask : BitVec 16) (sot : Bool)
  /-- `WAIT_IDLE` -/
  | waitIdle
  /-- `QUEUE_LENGTH` -/
  | queueLength
  /-- `IS_IDLE` -/
  | isIdle
  /-- `SET_POSITION p` -/
  | setPosition (p : Vector Word 8)
  /-- `EMERGENCY_STOP` -/
  | emergencyStop
deriving DecidableEq, Repr

/-- What a line makes the host do. -/
def ScriptStmt.hostPart (c : Config) : ScriptStmt → List HostStmt
  | .wr a v => [.wr a v]
  | .rd a => [.rd a]
  | .cmd i => [.wr Port.cmd (encode i)]
  | .ticks _ => []
  | .es _ _ => []
  | .bodyEnd => []
  | .stage m => Machine.stage m
  | .enq m => Machine.enq m
  | .enqHome m esmask sot => Machine.enqHome m esmask sot
  | .waitIdle => [.waitIdle]
  | .queueLength => Machine.queueLength
  | .isIdle => Machine.isIdle
  | .setPosition p => Machine.setPosition c p
  | .emergencyStop => Machine.emergencyStop

/-- What a line makes the counter, the tick body and the environment do. -/
def ScriptStmt.otherPart : ScriptStmt → List Turn
  | .ticks n => List.replicate n (.agent .counter)
  | .es b v => [.agent (.environment b v)]
  | .bodyEnd => [.agent .tickBody]
  | .wr _ _ => []
  | .rd _ => []
  | .cmd _ => []
  | .stage _ => []
  | .enq _ => []
  | .enqHome _ _ _ => []
  | .waitIdle => []
  | .queueLength => []
  | .isIdle => []
  | .setPosition _ => []
  | .emergencyStop => []

/-- The turns of host statements: each is over before the next begins (log 12). -/
def hostTurns (p : List HostStmt) : List Turn := p.map fun _ => .hostStatement

/-- The turns of a line; a line is the host's or another agent's. -/
def ScriptStmt.turns (c : Config) (l : ScriptStmt) : List Turn := hostTurns (l.hostPart c) ++ l.otherPart

/-- The state with a host program loaded that runs with no one else between its statements. -/
def State.withHostProgram (s : State) (p : List HostStmt) : State := { s with program := p, schedule := hostTurns p }

/-- The state with a script loaded: the host's program and the order of the turns, line after line. -/
def State.withScript (s : State) (p : List ScriptStmt) : State :=
  { s with program := p.flatMap (ScriptStmt.hostPart s.cfg), schedule := p.flatMap (ScriptStmt.turns s.cfg) }

/-! ### The homing sequence (46_homing_protocol.md) -/

/-- The constants of one axis that the host's configuration holds (R200, 00_scope.md R11). The spec gives them units but no
number type: whole steps per mm, mm/min, mm/s² and micrometres are the model's choice (log 19). `maxFeedrate` is listed
and no rule reads it. -/
structure AxisConstants where
  /-- STEPS_PER_MM -/
  stepsPerMm : Nat
  /-- MAX_FEEDRATE, mm/min -/
  maxFeedrate : Nat
  /-- ACCELERATION, mm/s² -/
  acceleration : Nat
  /-- ENDSTOP_CLEARANCE, µm (conflict C5) -/
  endstopClearance : Option Nat
  /-- SEARCH_FEEDRATE, mm/min -/
  searchFeedrate : Option Nat
  /-- "optional MIN", µm -/
  min : Option Int
  /-- "optional MAX", µm -/
  max : Option Int
  /-- the axis has a maximum endstop, PA's `*_MAX_PIN` (R207) -/
  maxPin : Bool
deriving DecidableEq, Repr

/-- The axis' constants pass PA's compile-time check (R207): there is a SEARCH_FEEDRATE, an ENDSTOP_CLEARANCE, and a MAX where
the axis has a maximum endstop. -/
def AxisConstants.buildable (k : AxisConstants) : Bool :=
  k.searchFeedrate.isSome && k.endstopClearance.isSome && (!k.maxPin || k.max.isSome)

/-- One axis to home to one of its endstops, with the constants that takes (log 19). -/
structure HomingAxis where
  axis : Fin 8
  toMax : Bool
  stepsPerMm : Nat
  acceleration : Nat
  clearance : Nat
  searchFeedrate : Nat
  coordinate : Int
deriving DecidableEq, Repr

/-- The axis homed to its minimum or its maximum endstop. None where ConfigInvalid refuses to build the axis, whichever
endstop is meant (R207). DESIGN CHOICE (log 19): none too where the coordinate of the endstop meant is not given and R207
does not ask for it (a MIN, or the MAX of an axis without `maxPin`); MIN and MAX are optional (R200), and the spec does not
say what a host without one does. -/
def AxisConstants.homing (k : AxisConstants) (axis : Fin 8) (toMax : Bool) : Option HomingAxis :=
  if k.buildable then
    match k.endstopClearance, k.searchFeedrate, (if toMax then k.max else k.min) with
    | some clearance, some feedrate, some coordinate =>
      some ⟨axis, toMax, k.stepsPerMm, k.acceleration, clearance, feedrate, coordinate⟩
    | _, _, _ => none
  else none

/-- The integer part of the square root, bit by bit from bit `k-1`. -/
def isqrtFrom (n : Nat) : Nat → Nat → Nat
  | 0, r => r
  | k + 1, r => isqrtFrom n k (if (r + 2 ^ k) * (r + 2 ^ k) ≤ n then r + 2 ^ k else r)

/-- `search_fast > search_slow` (R201, R202), in integers: `search_fast = 60·√(2·A·C/1000)` mm/min with the
clearance in micrometres (conflict C5). -/
def searchFastExceeds (h : HomingAxis) : Bool :=
  decide (h.searchFeedrate * h.searchFeedrate * 1000 < 3600 * (2 * h.acceleration * h.clearance))

/-- `search_fast` in steps per second, floor (log 13). -/
def fastRate (h : HomingAxis) : Nat :=
  let square := 2 * h.acceleration * h.clearance * (h.stepsPerMm * h.stepsPerMm) / 1000
  isqrtFrom square (Nat.log2 square / 2 + 1) 0

/-- `search_slow` in steps per second, floor (log 13). -/
def slowRate (h : HomingAxis) : Nat := h.searchFeedrate * h.stepsPerMm / 60

/-- The word the host stages for an unsigned number: a free value where it does not fit (log 20). -/
def stagedNat (n : Nat) : Word := if n < 2 ^ 32 then word n else Config.freeStaged n

/-- The word the host stages for a position, two's complement (30_encoding.md R84): a free value where it does not fit
(log 20). -/
def stagedInt (n : Int) : Word := if -2 ^ 31 ≤ n ∧ n < 2 ^ 31 then BitVec.ofInt 32 n else Config.freeStaged n

/-- The length of a homing move in steps, `10^6 µm · STEPS_PER_MM / 1000` (R203). -/
def homingSteps (h : HomingAxis) : Nat := 1000000 * h.stepsPerMm / 1000

/-- The coordinate of the endstop in steps, `MIN·STEPS_PER_MM/1000` (R205), rounded down (log 13). -/
def homingCoordinate (h : HomingAxis) : Int := h.coordinate * h.stepsPerMm / 1000

/-- The endstop bit of the axis: 2a for its minimum, 2a+1 for its maximum (30_encoding.md R87). -/
def homingBit (h : HomingAxis) : Nat := 2 * h.axis.val + (if h.toMax then 1 else 0)

/-- The mask `1 << b`. -/
def homingMask (h : HomingAxis) : BitVec 16 := BitVec.ofNat 16 (2 ^ homingBit h)

/-- A homing Move on one axis: `delta = total_steps` (R203), no ramp: A = 0, D = T, c0 = 0, as program P5 of
95_test_vectors.md has it (log 13). A number that does not fit its word is staged as a free value (log 20). -/
def homingMove (h : HomingAxis) (negative : Bool) (rate : Nat) : Move where
  dir := if negative then BitVec.ofNat 8 (2 ^ h.axis.val) else 0
  dwell := false
  totalSteps := stagedNat (homingSteps h)
  nominalRate := stagedNat rate
  accelRate := 0
  decelRate := 0
  accelUntilStep := 0
  decelFromStep := stagedNat (homingSteps h)
  c0 := 0
  delta := (Vector.replicate 8 0).set h.axis.val (stagedNat (homingSteps h))
  esmask := 0
  escond := false

/-- The approach: toward the stop, until open → triggered (R202). -/
def approach (h : HomingAxis) (rate : Nat) : List HostStmt :=
  enqHome (homingMove h (!h.toMax) rate) (homingMask h) true

/-- The back-off: away from the stop at the slow feedrate, until triggered → open (R202). -/
def backOff (h : HomingAxis) : List HostStmt :=
  enqHome (homingMove h h.toMax (slowRate h)) (homingMask h) false

/-- The host's look before the approach (R204): a switch already triggered is backed off first. -/
def homingCheck (h : HomingAxis) : List HostStmt :=
  [.rd Port.es, .skipUnless (Fin.ofNat 32 (16 + homingBit h)) (backOff h).length] ++ backOff h

/-- Steps 2 and 3 (R202). -/
def homingSearch (h : HomingAxis) : List HostStmt :=
  if searchFastExceeds h then approach h (fastRate h) ++ backOff h else approach h (slowRate h)

/-- Step 4 (R205): wait, read the other axes' POS and stage them unchanged, stage the coordinate, SETPOS. A
coordinate that does not fit its word is staged as a free value (log 20). -/
def homingOrigin (c : Config) (h : HomingAxis) : List HostStmt :=
  [.waitIdle] ++
  (presentAxes c).flatMap (fun a =>
    if a = h.axis then [.wr (BitVec.ofNat 6 (0x38 + a.val)) (stagedInt (homingCoordinate h))]
    else [.rd (Port.pos a), .wrLast (BitVec.ofNat 6 (0x38 + a.val))]) ++
  [.wr Port.cmd (encode .setpos)]

/-- The whole sequence of one axis. The host does not look whether a move hit its endstop and goes on either way: what it
does when a move ended on its count is not said (R203; the choice of log 21). -/
def homeAxis (c : Config) (h : HomingAxis) : List HostStmt :=
  homingCheck h ++ homingSearch h ++ homingOrigin c h

/-- "repeated for each homed axis", one after another (R206). -/
def homeAxes (c : Config) (hs : List HomingAxis) : List HostStmt := hs.flatMap (homeAxis c)

/-- The host is built from the constants of its axes: none of the axes that exist is ConfigInvalid (R207). -/
def hostBuilds (c : Config) (ks : Vector AxisConstants 8) : Bool := (presentAxes c).all fun a => ks[a].buildable

/-- The homing program of a host for the axes and endstops meant, in their order (R206). None where the host is not built:
the check is "compile-time" and refuses the whole build, whichever axes are homed (R207). None too where one of the axes
has no homing (log 19). -/
def homingProgram (c : Config) (ks : Vector AxisConstants 8) (targets : List (Fin 8 × Bool)) : Option (List HostStmt) :=
  if hostBuilds c ks then (targets.mapM fun t : Fin 8 × Bool => ks[t.1].homing t.1 t.2).map (homeAxes c) else none

end Sys2Proof.Machine
end

