-- ==== Sys2Proof/Safety.lean ====
section
/-! DEFINITION. What a safe run is: the invariants of 10_state.md R41, R42 and the ranges of R25 to R40, in the terms
the statements use; which fires a TICK makes; the conditions that 43_move_queue.md R159
puts on a stored Move; and what a fair run is. -/

namespace Sys2Proof.Machine

/-! ### A stored Move that VALID let through (43_move_queue.md R159) -/

/-- No bit, no delta and no mask bit of an axis that does not exist. -/
abbrev moveAxesOk (c : Config) (m : Move) : Prop :=
  (∀ a : Fin 8, c.nAxes ≤ a.val → m.dir.getLsbD a.val = false ∧ m.delta[a] = 0) ∧
  (∀ b : Fin 16, 2 * c.nAxes ≤ b.val → m.esmask.getLsbD b.val = false)

/-- A dwell has no steps and watches nothing. -/
abbrev moveDwellOk (m : Move) : Prop :=
  m.totalSteps = 0 ∧ (∀ a : Fin 8, m.delta[a] = 0) ∧ m.accelUntilStep = 0 ∧ m.decelFromStep = 0 ∧ m.esmask = 0

/-- `total_steps` is the largest delta, at least 1; `A ≤ D ≤ T`; the rate is at least 1. -/
abbrev moveStepsOk (c : Config) (m : Move) : Prop :=
  1 ≤ m.totalSteps.toNat ∧
  (∀ a : Fin 8, m.delta[a].toNat ≤ m.totalSteps.toNat) ∧
  (∃ a : Fin 8, a.val < c.nAxes ∧ m.delta[a] = m.totalSteps) ∧
  m.accelUntilStep.toNat ≤ m.decelFromStep.toNat ∧ m.decelFromStep.toNat ≤ m.totalSteps.toNat ∧
  1 ≤ m.nominalRate.toNat

abbrev moveOk (c : Config) (m : Move) : Prop :=
  moveAxesOk c m ∧ (if m.dwell then moveDwellOk m else moveStepsOk c m)

/-! ### The invariant -/

/-- The registers keep their ranges (10_state.md R25 to R29, R33, R35, R40); `nst` where DIR_SETUP_TICKS
keeps its own (log 10). -/
abbrev InvRanges (s : State) : Prop :=
  s.cnt < s.cfg.range ∧ s.ocrA < s.cfg.range ∧ s.ocrB < s.cfg.range ∧ s.anchor < s.cfg.range ∧
  s.head < s.cfg.ringMod ∧ s.tail < s.cfg.ringMod ∧ s.pulseTimer ≤ s.cfg.stepPulseTicks ∧
  (s.cfg.dirSetupTicks < 2 ^ 32 → s.nst < 2 ^ 32) ∧
  (∀ b : Fin 16, s.db[b].count < s.cfg.debounceSamples)

/-- The slot memory is canonical and inside its address space (20_memory.md R60), and every queued entry holds a
Move that VALID let through. -/
abbrev InvSlots (s : State) : Prop :=
  Memory.wf s.slots = true ∧ (∀ e ∈ s.slots, e.1 < s.cfg.queueCapacity) ∧
  (∀ k : Fin s.qlen,
    (Memory.readSlot s.slots ((s.head + k.val) % s.cfg.queueCapacity)).any (fun m => decide (moveOk s.cfg m)) = true)

/-- "The queue holds at most QUEUE_CAPACITY moves" (R41 item 4), and a move is live exactly while the ring is not
empty (R42 item a, 43_move_queue.md R157). -/
abbrev InvRing (s : State) : Prop :=
  s.qlen ≤ s.cfg.queueCapacity ∧ (s.live = true ↔ s.head ≠ s.tail)

/-- The modes and the enables (R42 items b, c, d; R24; R28): the step compare is armed exactly while a move is
live, the tick compare and the drivers are on exactly between INIT and ESTOP, `nst` is 0 while no step is
scheduled. -/
abbrev InvModes (s : State) : Prop :=
  (s.stepArmed = s.live) ∧ (s.stepArmed → s.running ∧ s.estopped = false) ∧
  (s.tickArmed = (s.running && !s.estopped)) ∧ (s.drvEn = (s.running && !s.estopped)) ∧
  (s.estopped → s.stepOut = 0) ∧ (s.stepArmed = false → s.nst = 0)

/-- The engine (R41 items 3, 5; R42 item f; R22). -/
abbrev InvEngine (s : State) : Prop :=
  (s.live = false → s.phase = .none ∧ s.dsp = false) ∧
  (s.live → s.cfg.minStepTicks ≤ s.cur.toNat ∧ s.stepNo.toNat ≤ s.liveMove.totalSteps.toNat) ∧
  (s.live → s.liveMove.dwell → s.dsp = false) ∧
  (s.live → s.liveMove.dwell = false →
    s.stepNo.toNat < s.liveMove.totalSteps.toNat ∧
    ∀ a : Fin 8, a.val < s.cfg.nAxes → s.bres[a].toNat < s.liveMove.totalSteps.toNat)

/-- The lines (R42 item e): a pulse runs exactly while a STEP line is high. -/
abbrev InvLines (s : State) : Prop := s.pulseTimer = 0 ↔ s.stepOut = 0

/-- What belongs to no axis stays at its reset value (R34, R36, R38, R40). -/
abbrev InvAbsent (s : State) : Prop :=
  (∀ a : Fin 8, s.cfg.nAxes ≤ a.val →
    s.pos[a] = 0 ∧ s.stepOut.getLsbD a.val = false ∧ s.dirOut.getLsbD a.val = false) ∧
  (∀ b : Fin 16, 2 * s.cfg.nAxes ≤ b.val → s.db[b] = ⟨false, 0⟩)

/-- The invariant every reachable state satisfies. -/
abbrev Inv (s : State) : Prop :=
  s.cfg.WellFormed ∧ InvRanges s ∧ InvSlots s ∧ InvRing s ∧ InvModes s ∧ InvEngine s ∧ InvLines s ∧ InvAbsent s

/-! ### Which fire the next TICK makes -/

/-- The next TICK makes a real fire (00_scope.md R19; 40_timer_scheduler.md R101, R106). -/
def State.realFireNext (s : State) : Bool :=
  s.running && s.stepArmed && (s.cnt + 1) % s.cfg.range == s.ocrA && decide (s.nst < s.cfg.range)

/-- The next TICK makes a wrap fire (R19, R107). -/
def State.wrapFireNext (s : State) : Bool :=
  s.running && s.stepArmed && (s.cnt + 1) % s.cfg.range == s.ocrA && decide (s.cfg.range ≤ s.nst)

/-- The next TICK makes a tick service (R109). -/
def State.tickServiceNext (s : State) : Bool :=
  s.running && s.tickArmed && (s.cnt + 1) % s.cfg.range == s.ocrB

/-- How many of the first `n` TICKs from `s` make a wrap fire. -/
def wrapFires : Nat → State → Nat
  | 0, _ => 0
  | n + 1, s => (if s.wrapFireNext then 1 else 0) + wrapFires n (tick s)

/-- The agent whose turn the next step is. -/
def State.nextTurn (s : State) : Agent := (nextAgent s).1

/-! ### Groups of fields, for frames -/

/-- The pins and positions: nothing moves (R34, R36 to R38). -/
abbrev SameAxes (s t : State) : Prop :=
  t.pos = s.pos ∧ t.stepOut = s.stepOut ∧ t.dirOut = s.dirOut ∧ t.drvEn = s.drvEn ∧ t.pulseTimer = s.pulseTimer

/-- The DDA runtime registers and the debouncer (R22, R40). -/
abbrev SameEngine (s t : State) : Prop :=
  t.live = s.live ∧ t.stepNo = s.stepNo ∧ t.bres = s.bres ∧ t.cur = s.cur ∧ t.phase = s.phase ∧
  t.rampN = s.rampN ∧ t.cCruise = s.cCruise ∧ t.dsp = s.dsp ∧ t.db = s.db

/-- The ring and its slots, read entry by entry (R33). -/
abbrev SameRing (s t : State) : Prop :=
  t.head = s.head ∧ t.tail = s.tail ∧ ∀ i, Memory.readSlot t.slots i = Memory.readSlot s.slots i

/-- What only the foreground writes, and the configuration (10_state.md R43, R20). -/
abbrev SameForeground (s t : State) : Prop :=
  t.cfg = s.cfg ∧ t.mv = s.mv ∧ t.result = s.result ∧ t.running = s.running ∧ t.estopped = s.estopped

/-- The step compare is set for a real fire `delay` ticks after counter value `p`, in the three branches of
40_timer_scheduler.md R103. -/
abbrev ScheduledFor (s : State) (p delay : Nat) : Prop :=
  s.stepArmed = true ∧
  (delay < s.cfg.range → s.nst = delay ∧ s.ocrA = (p + delay) % s.cfg.range) ∧
  (s.cfg.range ≤ delay → delay < s.cfg.range + s.cfg.counterGuard →
    s.nst = delay + s.cfg.counterGuard ∧ (s.ocrA + s.cfg.counterGuard) % s.cfg.range = p ∧ s.ocrA < s.cfg.range) ∧
  (s.cfg.range + s.cfg.counterGuard ≤ delay → s.nst = delay ∧ s.ocrA = p)

/-! ### Runs -/

/-- An endless run of the machine, step after step. -/
abbrev IsRun (r : Nat → State) : Prop := ∀ n, step (r n) = .next (r (n + 1))

/-- The one thing the spec assumes about when TICK_BODY_END happens: it "is not postponed for ever" (40_timer_scheduler.md
R110; log 16). -/
abbrev TickBodyFair (r : Nat → State) : Prop :=
  ∀ n, (r n).tickBusy = true → ∃ m, n ≤ m ∧ (r m).tickBusy = false

end Sys2Proof.Machine
end

