-- ==== Sys2Proof/Certificates/Slice0/Obligations.lean ====
section
/-! DEFINITION. The statements for the provers, grouped by the file of spec/ they come from. Each docstring names the
rule it formalises. Statements that rest on a choice of the model's say so and name the log entry. -/

open Sys2Proof Sys2Proof.Machine

/-! ### 30_encoding.md -/

/-- A command has one word and a word at most one command: decoding and encoding agree in both directions
(30_encoding.md R81 to R83). -/
def Obligations.DecodeEncodeAgree : Prop :=
  ∀ (w : Word) (i : Instr), decode w = some i ↔ encode i = w

/-- R82: the opcode map with its match and mask values, and that the rows are disjoint. -/
def Obligations.DecodeSelectsTheRow : Prop :=
  (∀ w : Word,
    (decode w = some .nop ↔ w &&& 0xFFFFFFFF = 0x00000000) ∧
    (decode w = some .init ↔ w &&& 0xFFFFFFFF = 0x00000001) ∧
    (decode w = some .push ↔ w &&& 0xFFFFFFFF = 0x00000002) ∧
    ((∃ m c, decode w = some (.pushHome m c)) ↔ w &&& 0xFE0000FF = 0x00000003) ∧
    (decode w = some .estop ↔ w &&& 0xFFFFFFFF = 0x00000004) ∧
    (decode w = some .setpos ↔ w &&& 0xFFFFFFFF = 0x00000005) ∧
    (decode w = none ↔ ∀ r ∈ opcodeMap, r.selects w = false)) ∧
  (∀ r ∈ opcodeMap, ∀ q ∈ opcodeMap, ∀ w : Word, r.selects w = true → q.selects w = true → r = q)

/-- The operands of PUSH_HOME are bits 23:8 and 24 of its word, bit for bit (R83, R81). -/
def Obligations.PushHomeOperandsAreTheirBits : Prop :=
  ∀ (w : Word) (m : BitVec 16) (c : Bool), decode w = some (.pushHome m c) →
    (∀ b : Fin 16, m.getLsbD b.val = w.getLsbD (8 + b.val)) ∧ c = w.getLsbD 24 ∧
    (∀ b : Fin 7, w.getLsbD (25 + b.val) = false) ∧ w.extractLsb' 0 8 = 0x03

/-- Words written out from the spec decode to what they stand for (95_test_vectors.md V44-1, P5). -/
def Obligations.SpecWordsDecode : Prop :=
  decodeTableWord 32 0x00000000 = some .nop ∧ decodeTableWord 32 0x00000001 = some .init ∧
  decodeTableWord 32 0x00000002 = some .push ∧ decodeTableWord 32 0x01000103 = some (.pushHome 0x0001 true) ∧
  decodeTableWord 32 0x00000103 = some (.pushHome 0x0001 false) ∧
  decodeTableWord 32 0x01FFFF03 = some (.pushHome 0xFFFF true) ∧ decodeTableWord 32 0x00000004 = some .estop ∧
  decodeTableWord 32 0x00000005 = some .setpos ∧ decodeTableWord 32 0x00000006 = none ∧
  decodeTableWord 32 0x00000102 = none ∧ decodeTableWord 32 0x02000003 = none

/-- The reserved words are exactly those of the three grounds of R88, and a reserved word written to CMD answers
BadCommand and changes nothing else (R88, 44_controller_commands.md R180). -/
def Obligations.ReservedWordsAnswerBadCommand : Prop :=
  ∀ (w : Word) (s : State),
    (decode w = none ↔
      (6 ≤ (w.extractLsb' 0 8).toNat ∨ w.extractLsb' 25 7 ≠ 0 ∨
        (w.extractLsb' 0 8 ≠ 0x03 ∧ w.extractLsb' 8 17 ≠ 0))) ∧
    (decode w = none → hostWrite Port.cmd w s = .next { s with result := .badCommand })

/-- Format M loses nothing: a Move staged in the sixteen words and decoded is the Move, and a block of words
without reserved bits comes back from its Move (R84, R86; 43_move_queue.md R163). -/
def Obligations.DescriptorRoundTrip : Prop :=
  (∀ m : Move, decodeMove (encodeMove m) m.esmask m.escond = m) ∧
  (∀ (mv : Vector Word 16) (esmask : BitVec 16) (escond : Bool),
    mv[0].extractLsb' 9 23 = 0 → encodeMove (decodeMove mv esmask escond) = mv)

/-- R163: DECODE_MOVE, field by field, the flags word bit by bit. -/
def Obligations.DecodeMoveTakesEachField : Prop :=
  ∀ (mv : Vector Word 16) (esmask : BitVec 16) (escond : Bool),
    let m := decodeMove mv esmask escond
    (∀ b : Fin 8, m.dir.getLsbD b.val = mv[0].getLsbD b.val) ∧ m.dwell = mv[0].getLsbD 8 ∧
    m.totalSteps = mv[1] ∧ m.nominalRate = mv[2] ∧ m.accelRate = mv[3] ∧ m.decelRate = mv[4] ∧
    m.accelUntilStep = mv[5] ∧ m.decelFromStep = mv[6] ∧ m.c0 = mv[7] ∧
    (∀ a : Fin 8, m.delta[a] = mv[8 + a.val]) ∧ m.esmask = esmask ∧ m.escond = escond

/-- R91: the STATUS word, bit by bit; IDLE, QFULL and QEMPTY by their own conditions. -/
def Obligations.StatusWordBits : Prop :=
  ∀ s : State, s.cfg.WellFormed →
    let w := s.statusWord
    w.getLsbD 0 = s.running ∧ w.getLsbD 1 = s.estopped ∧ w.getLsbD 2 = s.live ∧
    (w.getLsbD 3 = true ↔ s.head = s.tail ∧ s.live = false) ∧
    (w.getLsbD 4 = true ↔ ((s.tail : Int) - s.head) % (2 * s.cfg.queueCapacity : Nat) = s.cfg.queueCapacity) ∧
    (w.getLsbD 5 = true ↔ s.head = s.tail) ∧
    w.getLsbD 6 = s.stepArmed ∧ w.getLsbD 7 = s.tickArmed ∧ w.getLsbD 8 = s.tickBusy ∧ w.getLsbD 9 = s.dsp ∧
    w.getLsbD 10 = s.drvEn ∧ w.getLsbD 11 = false ∧
    w.extractLsb' 12 2 = (match s.phase with | .none => 0#2 | .accel => 1#2 | .cruise => 2#2 | .decel => 3#2) ∧
    w.extractLsb' 14 2 = 0 ∧ w.extractLsb' 16 8 = s.stepOut ∧ w.extractLsb' 24 8 = s.dirOut

/-! ### 20_memory.md -/

/-- R64: on a byte-addressed bus the byte at offset k holds bits 8k+7 down to 8k, and four bytes give the word
back. -/
def Obligations.BusBytesAreLittleEndian : Prop :=
  (∀ (w : Word) (k : Fin 4) (b : Fin 8), (byteOfWord w k.val).getLsbD b.val = w.getLsbD (8 * k.val + b.val)) ∧
  (∀ w : Word, wordOfBytes (byteOfWord w 0) (byteOfWord w 1) (byteOfWord w 2) (byteOfWord w 3) = w) ∧
  (∀ a : BitVec 6, busIndex (4 * a.toNat) 4 = some a)

/-- R62: HOST_WRITE runs the command on CMD, stores on MV0 to MV15, and does nothing elsewhere. -/
def Obligations.HostWriteReachesOnlyCmdAndStaging : Prop :=
  ∀ (a : BitVec 6) (v : Word) (s : State),
    (a = 0x00 → hostWrite a v s = command v s) ∧
    (∀ k : Fin 16, a.toNat = 0x30 + k.val → ∃ t, hostWrite a v s = .next t ∧ t.mv[k] = v ∧
      (∀ j : Fin 16, j ≠ k → t.mv[j] = s.mv[j]) ∧ t = { s with mv := t.mv }) ∧
    (a ≠ 0x00 → a.toNat < 0x30 → hostWrite a v s = .next s)

/-- R61, R90: the value of every register, the reserved indices and CMD reading 0; RESULT by its eight codes, QLEN in
integers. What a value of 2^32 or more reads as is free (log 18), so the clauses of the ring and of NST ask that it fits. -/
def Obligations.RegisterMapValues : Prop :=
  ∀ s : State,
    s.readReg 0x00 = 0 ∧
    s.readReg 0x01 = (match s.result with
      | .ok => 0#32 | .queueFullBlocked => 1#32 | .notInit => 2#32 | .eStopped => 3#32
      | .badMove => 4#32 | .notIdle => 5#32 | .busy => 6#32 | .badCommand => 7#32) ∧
    s.readReg 0x02 = s.statusWord ∧
    (s.cfg.WellFormed → ((s.tail : Int) - s.head) % (2 * s.cfg.queueCapacity : Nat) < 2 ^ 32 →
      ((s.readReg 0x03).toNat : Int) = ((s.tail : Int) - s.head) % (2 * s.cfg.queueCapacity : Nat)) ∧
    (s.head < 2 ^ 32 → (s.readReg 0x04).toNat = s.head) ∧ (s.tail < 2 ^ 32 → (s.readReg 0x05).toNat = s.tail) ∧
    s.readReg 0x06 = word s.cnt ∧ s.readReg 0x07 = word s.ocrA ∧ s.readReg 0x08 = word s.ocrB ∧
    (s.nst < 2 ^ 32 → (s.readReg 0x09).toNat = s.nst) ∧ s.readReg 0x0A = word s.anchor ∧ s.readReg 0x0B = s.sysTicks ∧
    s.readReg 0x0C = s.stepNo ∧
    s.readReg 0x0D = (if s.live then s.liveMove.totalSteps else 0) ∧ s.readReg 0x0E = s.cur ∧
    s.readReg 0x0F = s.rampN ∧
    (∀ b : Fin 16, (s.readReg 0x10).getLsbD b.val = s.db[b].level ∧
      (s.readReg 0x10).getLsbD (16 + b.val) = (decide (b.val < 2 * s.cfg.nAxes) && s.esIn b)) ∧
    (∀ a : BitVec 6, (0x11 ≤ a.toNat ∧ a.toNat ≤ 0x17) ∨ (0x28 ≤ a.toNat ∧ a.toNat ≤ 0x2F) → s.readReg a = 0) ∧
    (∀ a : Fin 8, s.readReg (BitVec.ofNat 6 (0x18 + a.val)) = s.pos[a] ∧
      s.readReg (BitVec.ofNat 6 (0x20 + a.val)) = s.bres[a]) ∧
    (∀ k : Fin 16, s.readReg (BitVec.ofNat 6 (0x30 + k.val)) = s.mv[k])

/-- R63: HOST_READ changes no state of the block; the host gets the register's value (`readData`, log 7), and only
a read of ES takes a draw of the inputs (`draws`, log 6). -/
def Obligations.HostReadChangesNoBlockState : Prop :=
  ∀ (a : BitVec 6) (s : State),
    hostRead a s = { s with readData := s.readReg a, draws := if a = 0x10 then s.draws + 1 else s.draws }

/-- R72, R41 item 2: no step but reset changes what a queued entry holds, the live one among them. -/
def Obligations.QueuedMovesAreImmutable : Prop :=
  ∀ s t : State, Inv s → step s = .next t → s.nextTurn ≠ .reset →
    ∀ k, k < s.qlen → t.slotAt (s.head + k) = s.slotAt (s.head + k)

/-! ### 43_move_queue.md -/

/-- R159: VALID as the conjunction the rule gives, with the maximum said by what a maximum is. -/
def Obligations.ValidIsTheConjunction : Prop :=
  ∀ (c : Config) (mv : Vector Word 16) (home : Bool) (esmask : BitVec 16), c.WellFormed →
    (valid c mv home esmask = true ↔
      (∀ b : Fin 32, 9 ≤ b.val → mv[0].getLsbD b.val = false) ∧
      (∀ b : Fin 8, c.nAxes ≤ b.val → mv[0].getLsbD b.val = false) ∧
      (∀ a : Fin 8, c.nAxes ≤ a.val → mv[8 + a.val] = 0) ∧
      (mv[0].getLsbD 8 = true →
        home = false ∧ mv[1] = 0 ∧ (∀ a : Fin 8, mv[8 + a.val] = 0) ∧ mv[5] = 0 ∧ mv[6] = 0) ∧
      (mv[0].getLsbD 8 = false →
        1 ≤ mv[1].toNat ∧ (∀ a : Fin 8, a.val < c.nAxes → mv[8 + a.val].toNat ≤ mv[1].toNat) ∧
        (∃ a : Fin 8, a.val < c.nAxes ∧ mv[8 + a.val] = mv[1]) ∧
        mv[5].toNat ≤ mv[6].toNat ∧ mv[6].toNat ≤ mv[1].toNat ∧ 1 ≤ mv[2].toNat) ∧
      (home = true → ∀ b : Fin 16, 2 * c.nAxes ≤ b.val → esmask.getLsbD b.val = false))

/-- R161: PUSH. The tests in their order, each refusal changing nothing but RESULT; the accepted PUSH writes the
entry at `tail` and no other, publishes, and starts an idle engine from `anchor = cnt`. -/
def Obligations.PushFollowsItsTests : Prop :=
  ∀ s : State,
    (s.running = false → exec .push s = .next { s with result := .notInit }) ∧
    (s.running = true → s.estopped = true → exec .push s = .next { s with result := .eStopped }) ∧
    (s.running = true → s.estopped = false → valid s.cfg s.mv false 0 = false →
      exec .push s = .next { s with result := .badMove }) ∧
    (s.running = true → s.estopped = false → valid s.cfg s.mv false 0 = true → s.qlen = s.cfg.queueCapacity →
      exec .push s = .next { s with result := .queueFullBlocked }) ∧
    (s.running = true → s.estopped = false → valid s.cfg s.mv false 0 = true → s.qlen ≠ s.cfg.queueCapacity →
      ∃ u : State,
        u = { s with slots := u.slots, tail := (s.tail + 1) % (2 * s.cfg.queueCapacity) } ∧
        Memory.readSlot u.slots (s.tail % s.cfg.queueCapacity) = some (decodeMove s.mv 0 false) ∧
        (∀ i, i ≠ s.tail % s.cfg.queueCapacity → Memory.readSlot u.slots i = Memory.readSlot s.slots i) ∧
        (s.live = true → exec .push s = .next { u with result := .ok }) ∧
        (s.live = false → exec .push s = .next { load { u with anchor := s.cnt } with result := .ok }))

/-- R162: PUSH_HOME, the same with `VALID(MV, 1)` and the mask and `escond = sot` of the command word. -/
def Obligations.PushHomeFollowsItsTests : Prop :=
  ∀ (esmask : BitVec 16) (sot : Bool) (s : State),
    (s.running = false → exec (.pushHome esmask sot) s = .next { s with result := .notInit }) ∧
    (s.running = true → s.estopped = true → exec (.pushHome esmask sot) s = .next { s with result := .eStopped }) ∧
    (s.running = true → s.estopped = false → valid s.cfg s.mv true esmask = false →
      exec (.pushHome esmask sot) s = .next { s with result := .badMove }) ∧
    (s.running = true → s.estopped = false → valid s.cfg s.mv true esmask = true → s.qlen = s.cfg.queueCapacity →
      exec (.pushHome esmask sot) s = .next { s with result := .queueFullBlocked }) ∧
    (s.running = true → s.estopped = false → valid s.cfg s.mv true esmask = true → s.qlen ≠ s.cfg.queueCapacity →
      ∃ u : State,
        u = { s with slots := u.slots, tail := (s.tail + 1) % (2 * s.cfg.queueCapacity) } ∧
        Memory.readSlot u.slots (s.tail % s.cfg.queueCapacity) = some (decodeMove s.mv esmask sot) ∧
        (∀ i, i ≠ s.tail % s.cfg.queueCapacity → Memory.readSlot u.slots i = Memory.readSlot s.slots i) ∧
        (s.live = true → exec (.pushHome esmask sot) s = .next { u with result := .ok }) ∧
        (s.live = false → exec (.pushHome esmask sot) s =
          .next { load { u with anchor := s.cnt } with result := .ok }))

/-- An accepted PUSH from a state of a run: the queue is one longer, the engine is live, and every axis line but
the direction stays (R156, R157, R161; 42_dda_engine.md R136). -/
def Obligations.AcceptedPushLengthensTheQueue : Prop :=
  ∀ (i : Instr) (s t : State), Inv s → (i = .push ∨ ∃ m c, i = .pushHome m c) → exec i s = .next t → t.result = .ok →
    t.qlen = s.qlen + 1 ∧ t.live = true ∧ t.head = s.head ∧ t.pos = s.pos ∧ t.stepOut = s.stepOut ∧
    t.pulseTimer = s.pulseTimer ∧ t.drvEn = s.drvEn ∧ t.cnt = s.cnt ∧ t.ocrB = s.ocrB ∧ t.sysTicks = s.sysTicks ∧
    SameForeground { s with result := .ok } t

/-! ### 44_controller_commands.md -/

/-- R179: NOP answers Ok and writes nothing else. -/
def Obligations.NopWritesOnlyResult : Prop :=
  ∀ s : State, exec .nop s = .next { s with result := .ok }

/-- R177, with TIMER_INIT (40_timer_scheduler.md R102): INIT. -/
def Obligations.InitEffectAndRefusal : Prop :=
  ∀ s : State,
    (s.running = true ∧ s.estopped = false ∧ ¬(s.head = s.tail ∧ s.live = false) →
      exec .init s = .next { s with result := .busy }) ∧
    (¬(s.running = true ∧ s.estopped = false ∧ ¬(s.head = s.tail ∧ s.live = false)) →
      exec .init s = .next { s with
        running := true, ocrB := (s.cnt + s.cfg.tickTime) % s.cfg.range, tickArmed := true, stepArmed := false,
        nst := 0, estopped := false, live := false, dsp := false, phase := .none, rampN := 0, stepOut := 0,
        pulseTimer := 0, drvEn := true, result := .ok })

/-- R178, with STOP (40_timer_scheduler.md R111): ESTOP, never refused. -/
def Obligations.EstopEffect : Prop :=
  ∀ s : State, exec .estop s = .next { s with
    stepArmed := false, tickArmed := false, nst := 0, head := s.tail, live := false, dsp := false, phase := .none,
    rampN := 0, stepOut := 0, pulseTimer := 0, drvEn := false, estopped := true, result := .ok }

/-- R176: SETPOS writes the positions of the axes that exist, or answers NotIdle. -/
def Obligations.SetposEffectAndRefusal : Prop :=
  ∀ s : State,
    (s.head = s.tail ∧ s.live = false → ∃ t, exec .setpos s = .next t ∧ t.result = .ok ∧
      (∀ a : Fin 8, a.val < s.cfg.nAxes → t.pos[a] = s.mv[8 + a.val]) ∧
      (∀ a : Fin 8, s.cfg.nAxes ≤ a.val → t.pos[a] = s.pos[a]) ∧
      t = { s with pos := t.pos, result := .ok }) ∧
    (¬(s.head = s.tail ∧ s.live = false) → exec .setpos s = .next { s with result := .notIdle })

/-- R182: which command is accepted when, from every state of a run. -/
def Obligations.AcceptanceTable : Prop :=
  ∀ s : State, Inv s →
    (∀ t, exec .init s = .next t →
      t.result = if s.running = true ∧ s.estopped = false ∧ s.head ≠ s.tail then .busy else .ok) ∧
    (∀ t, exec .setpos s = .next t → t.result = if s.head ≠ s.tail then .notIdle else .ok) ∧
    (∀ (i : Instr) (t : State), (i = .push ∨ ∃ m c, i = .pushHome m c) → exec i s = .next t →
      (s.running = false → t.result = .notInit) ∧
      (s.running = true → s.estopped = true → t.result = .eStopped) ∧
      (s.running = true → s.estopped = false → s.head = s.tail → t.result = .ok ∨ t.result = .badMove) ∧
      (s.running = true → s.estopped = false →
        t.result = .ok ∨ t.result = .badMove ∨ t.result = .queueFullBlocked)) ∧
    (s.estopped = true → s.head = s.tail ∧ s.live = false) ∧
    (∀ (i : Instr) (t : State), (i = .nop ∨ i = .estop) → exec i s = .next t → t.result = .ok) ∧
    (∀ (w : Word) (t : State), decode w = none → command w s = .next t → t.result = .badCommand)

/-- The block is never stuck: from any state at all ESTOP and then INIT are accepted, and leave it idle, running
and able to take a PUSH (60_exceptions.md R210). -/
def Obligations.EstopThenInitRecovers : Prop :=
  ∀ s : State, ∃ t u : State, exec .estop s = .next t ∧ exec .init t = .next u ∧ u.result = .ok ∧
    u.running = true ∧ u.estopped = false ∧ u.head = u.tail ∧ u.live = false ∧ u.drvEn = true ∧
    u.tickArmed = true ∧ u.stepArmed = false ∧ u.pos = s.pos ∧ u.mv = s.mv ∧ u.dirOut = s.dirOut ∧
    (valid u.cfg u.mv false 0 = true → u.cfg.WellFormed → ∃ v, exec .push u = .next v ∧ v.result = .ok)

/-! ### 40_timer_scheduler.md -/

/-- R25: the counter, 0..R-1, adds 1 modulo R in every TICK while `running = 1`, holds while `running = 0`, no command
writes it, and it is 0 after reset. -/
def Obligations.CounterCountsEveryTick : Prop :=
  (∀ s : State, s.running = true → (tick s).cnt = (s.cnt + 1) % s.cfg.range ∧ (tick s).cnt < s.cfg.range) ∧
  (∀ s : State, s.running = false → tick s = s) ∧
  (∀ (i : Instr) (s t : State), exec i s = .next t → t.cnt = s.cnt) ∧
  (∀ c : Config, (State.resetWith c).cnt = 0)

/-- R103, R104: SCHED, its short-request check over integers and its three branches. That a delay of 2^32 or more, which is
wider than R103's operand, goes through the same branches is the choice of log 10. -/
def Obligations.SchedBranches : Prop :=
  ∀ (delay : Nat) (check : Bool) (s : State), s.cfg.WellFormed → s.anchor < s.cfg.range →
    let short : Prop := check = true ∧
      (delay : Int) < ((s.cnt : Int) - s.anchor) % s.cfg.range + s.cfg.safeIsrCycles
    (short → sched delay check s = (.tooShort, s)) ∧
    (¬short → ∃ t, sched delay check s = (.scheduled, t) ∧ ScheduledFor t s.anchor delay ∧
      t = { s with nst := t.nst, ocrA := t.ocrA, stepArmed := true })

/-- R108 item (a), the scheduler-anchor property: after `SCHED(delay, 0)` with `anchor = cnt` and `delay ≥ 1` the
first real fire is the match of the `delay`-th TICK, at counter value `(anchor + delay) mod R`; until then nothing
of the engine, the lines or the anchor changes (but for a pulse that ends). -/
def Obligations.RealFireIsDelayTicksLater : Prop :=
  ∀ (s : State) (delay : Nat), s.cfg.WellFormed → s.running = true → s.cnt < s.cfg.range → s.anchor = s.cnt →
    1 ≤ delay →
    (∀ k, k < delay →
      ((tick^[k] (callSched delay s)).realFireNext = true ↔ k = delay - 1) ∧
      SameEngine s (tick^[k] (callSched delay s)) ∧ (tick^[k] (callSched delay s)).anchor = s.anchor ∧
      (tick^[k] (callSched delay s)).pos = s.pos ∧ (tick^[k] (callSched delay s)).dirOut = s.dirOut) ∧
    (tick^[delay - 1] (callSched delay s)).ocrA = (s.anchor + delay) % s.cfg.range

/-- R108 item (b): exactly `delay div R` wrap fires come before the real fire. -/
def Obligations.WrapFiresBeforeTheRealFire : Prop :=
  ∀ (s : State) (delay : Nat), s.cfg.WellFormed → s.running = true → s.cnt < s.cfg.range → s.anchor = s.cnt →
    1 ≤ delay → wrapFires delay (callSched delay s) = delay / s.cfg.range

/-- R107: a wrap fire subtracts R and re-arms; `anchor` is not written, the DDA does not run, no pin of the step
engine changes but for a pulse that ends. -/
def Obligations.WrapFireDoesEmptyWork : Prop :=
  ∀ s : State, s.cfg.WellFormed → s.cnt < s.cfg.range → s.ocrA < s.cfg.range → s.wrapFireNext = true →
    let t := tick s
    let left := s.nst - s.cfg.range
    (left < s.cfg.range → t.nst = left ∧ t.ocrA = (s.ocrA + left) % s.cfg.range) ∧
    (s.cfg.range ≤ left → left < s.cfg.range + s.cfg.counterGuard →
      t.nst = left + s.cfg.counterGuard ∧ (t.ocrA + s.cfg.counterGuard) % s.cfg.range = s.ocrA ∧
      t.ocrA < s.cfg.range) ∧
    (s.cfg.range + s.cfg.counterGuard ≤ left → t.nst = left ∧ t.ocrA = s.ocrA) ∧
    t.stepArmed = true ∧ t.anchor = s.anchor ∧ SameEngine s t ∧ t.pos = s.pos ∧ t.dirOut = s.dirOut ∧
    t.drvEn = s.drvEn ∧ t.stepOut = (countTick s).stepOut ∧ SameRing s t

/-- R106, 42_dda_engine.md R138, R141, R144: a real fire moves the anchor to the compare value, which is the counter, and
disarms; an engine that goes idle leaves the compare disarmed with `nst = 0`; one that stays live has it set again, from
the new anchor: `cur` ticks ahead, or a no-op interval ahead where `dsp` is set. -/
def Obligations.RealFireMovesTheAnchor : Prop :=
  ∀ s : State, s.cfg.WellFormed → s.realFireNext = true → s.live = true →
    (tick s).anchor = s.ocrA ∧ (tick s).cnt = s.ocrA ∧
    ((tick s).live = false → (tick s).stepArmed = false ∧ (tick s).nst = 0 ∧ (tick s).phase = .none) ∧
    ((tick s).live = true → (tick s).dsp = false → ScheduledFor (tick s) s.ocrA (tick s).cur.toNat) ∧
    ((tick s).live = true → (tick s).dsp = true →
      ScheduledFor (tick s) s.ocrA (max s.cfg.dirSetupTicks s.cfg.minStepTicks))

/-- R109: the tick service, on a compare-B match and only then, whatever the step service did in the same TICK. -/
def Obligations.TickServiceEffect : Prop :=
  ∀ s : State, s.running = true →
    (s.tickServiceNext = true → (tick s).ocrB = (s.ocrB + s.cfg.tickTime) % s.cfg.range ∧
      (tick s).sysTicks = s.sysTicks + 1 ∧ (tick s).tickBusy = true) ∧
    (s.tickServiceNext = false → (tick s).ocrB = s.ocrB ∧ (tick s).sysTicks = s.sysTicks ∧
      (tick s).tickBusy = s.tickBusy) ∧
    (tick s).tickArmed = s.tickArmed

/-- R110: TICK_BODY_END clears the latch and writes nothing else. -/
def Obligations.TickBodyEndClearsTheLatch : Prop :=
  ∀ s : State, s.tickBusy = true → turn .tickBody s = .next { s with tickBusy := false }

/-- R112: when both compares match in one TICK the step service runs first and the tick service after it. -/
def Obligations.StepServiceRunsFirst : Prop :=
  ∀ s : State, s.running = true → s.stepArmed = true → s.tickArmed = true →
    (s.cnt + 1) % s.cfg.range = s.ocrA → (s.cnt + 1) % s.cfg.range = s.ocrB →
    tick s = cmpB (cmpA (countTick s))

/-! ### 41_velocity_profiler.md -/

/-- R121: the half-open phase boundaries. -/
def Obligations.PhaseBoundariesAreHalfOpen : Prop :=
  ∀ (m : Move) (k : Nat),
    (phaseOf m k = .accel ↔ k < m.accelUntilStep.toNat) ∧
    (phaseOf m k = .cruise ↔ m.accelUntilStep.toNat ≤ k ∧ k < m.decelFromStep.toNat) ∧
    (phaseOf m k = .decel ↔ m.accelUntilStep.toNat ≤ k ∧ m.decelFromStep.toNat ≤ k) ∧
    phaseOf m k ≠ .none

/-- R124, R122, R123: the first interval of a validated Move, by the phase of step 0. -/
def Obligations.FirstIntervalByPhase : Prop :=
  ∀ (m : Move) (s : State), s.cfg.WellFormed → moveStepsOk s.cfg m →
    let c := s.cfg.cpuFreq / m.nominalRate.toNat
    let lim := fun v : Nat => min (max v s.cfg.minStepTicks) (2 ^ 32 - 1)
    let r := firstInterval m s
    r.2.cCruise.toNat = c ∧
    (0 < m.accelUntilStep.toNat → r.1.toNat = lim m.c0.toNat ∧ r.2.phase = .accel ∧ r.2.rampN = 0) ∧
    (m.accelUntilStep.toNat = 0 → 0 < m.decelFromStep.toNat →
      r.1.toNat = lim c ∧ r.2.phase = .cruise ∧ r.2.rampN = 0) ∧
    (m.accelUntilStep.toNat = 0 → m.decelFromStep.toNat = 0 →
      r.1.toNat = lim (c + 2 * c / (4 * m.totalSteps.toNat - 1)) ∧ r.2.phase = .decel ∧ r.2.rampN = m.totalSteps) ∧
    r.2 = { s with cCruise := r.2.cCruise, phase := r.2.phase, rampN := r.2.rampN }

/-- R125, R127: the recurrence up, its mirror down, constant in cruise, and the end of the move. -/
def Obligations.NextIntervalRecurrence : Prop :=
  ∀ s : State, s.cfg.WellFormed → s.stepNo.toNat ≤ s.liveMove.totalSteps.toNat →
    let m := s.liveMove
    let k := s.stepNo.toNat
    let lim := fun v : Nat => min (max v s.cfg.minStepTicks) (2 ^ 32 - 1)
    let r := nextInterval s
    (k = m.totalSteps.toNat → r = (s.cur, true, s)) ∧
    (k < m.totalSteps.toNat → r.2.1 = false ∧
      (k < m.accelUntilStep.toNat → r.1.toNat = lim (s.cur.toNat - 2 * s.cur.toNat / (4 * k + 1)) ∧
        r.2.2 = { s with phase := .accel, rampN := s.stepNo }) ∧
      (m.accelUntilStep.toNat ≤ k → k < m.decelFromStep.toNat → r.1.toNat = lim s.cCruise.toNat ∧
        r.2.2 = { s with phase := .cruise, rampN := 0 }) ∧
      (m.accelUntilStep.toNat ≤ k → m.decelFromStep.toNat ≤ k →
        r.1.toNat = lim (s.cur.toNat + 2 * s.cur.toNat / (4 * (m.totalSteps.toNat - k) - 1)) ∧
        r.2.2 = { s with phase := .decel, rampN := m.totalSteps - s.stepNo }))

/-- R126, R129 item (a): inside a move no interval is below MIN_STEP_TICKS; the intervals do not grow in ACCEL and
do not shrink in DECEL. -/
def Obligations.RampsAreMonotoneAndBounded : Prop :=
  ∀ s : State, s.cfg.WellFormed → s.stepNo.toNat < s.liveMove.totalSteps.toNat → s.cfg.minStepTicks ≤ s.cur.toNat →
    s.cfg.minStepTicks ≤ (nextInterval s).1.toNat ∧
    ((nextInterval s).2.2.phase = .accel → (nextInterval s).1.toNat ≤ s.cur.toNat) ∧
    ((nextInterval s).2.2.phase = .decel → s.cur.toNat ≤ (nextInterval s).1.toNat)

/-! ### 42_dda_engine.md -/

/-- R136, R137, 43_move_queue.md R160: LOAD of a queued Move, a dwell or not. -/
def Obligations.LoadStartsTheHeadMove : Prop :=
  ∀ s : State, s.cfg.WellFormed → s.anchor < s.cfg.range → moveOk s.cfg s.liveMove →
    let m := s.liveMove
    let t := load s
    t.live = true ∧ t.stepNo = 0 ∧ (∀ a : Fin 8, t.bres[a].toNat = m.totalSteps.toNat / 2) ∧
    t = { s with live := t.live, stepNo := t.stepNo, bres := t.bres, cur := t.cur, phase := t.phase,
                 rampN := t.rampN, cCruise := t.cCruise, dsp := t.dsp, ocrA := t.ocrA, nst := t.nst,
                 stepArmed := t.stepArmed, dirOut := t.dirOut, db := t.db, draws := t.draws } ∧
    (m.dwell = true → t.phase = .none ∧ t.rampN = 0 ∧ t.dsp = false ∧
      t.cur.toNat = max m.c0.toNat s.cfg.minStepTicks ∧ ScheduledFor t s.anchor t.cur.toNat ∧
      t.dirOut = s.dirOut ∧ t.db = s.db ∧ t.cCruise = s.cCruise) ∧
    (m.dwell = false → t.dirOut = m.dir ∧
      t.cur = (firstInterval m s).1 ∧ t.cCruise = (firstInterval m s).2.cCruise ∧
      t.phase = (firstInterval m s).2.phase ∧ t.rampN = (firstInterval m s).2.rampN ∧
      (∀ b : Fin 16, t.db[b] =
        if b.val < 2 * s.cfg.nAxes ∧ m.esmask.getLsbD b.val = true then ⟨s.esIn b, 0⟩ else s.db[b]) ∧
      (s.dirOut = m.dir → t.dsp = false ∧ ScheduledFor t s.anchor t.cur.toNat) ∧
      (s.dirOut ≠ m.dir → t.dsp = true ∧
        ScheduledFor t s.anchor (max s.cfg.dirSetupTicks s.cfg.minStepTicks)))

/-- R137, R138: the real fire that ends a no-op interval emits no pulse (the STEP lines and the pulse timer only run down,
R101), samples no endstop and schedules the first interval from the new anchor. -/
def Obligations.NoopFireEmitsNoStep : Prop :=
  ∀ s : State, s.cfg.WellFormed → s.live = true → s.dsp = true → s.realFireNext = true →
    let t := tick s
    t.dsp = false ∧ t.stepNo = s.stepNo ∧ t.pos = s.pos ∧ t.bres = s.bres ∧ t.db = s.db ∧ t.cur = s.cur ∧
    t.live = true ∧ t.dirOut = s.dirOut ∧ ScheduledFor t s.ocrA s.cur.toNat ∧
    t.stepOut = (countTick s).stepOut ∧ t.pulseTimer = s.pulseTimer - 1

/-- R138, 43_move_queue.md R160: the real fire of a dwell completes it, with no pulse. -/
def Obligations.DwellFireCompletesWithoutPulse : Prop :=
  ∀ s : State, s.live = true → s.dsp = false → s.liveMove.dwell = true → s.realFireNext = true →
    let t := tick s
    t.head = (s.head + 1) % (2 * s.cfg.queueCapacity) ∧ t.pos = s.pos ∧ t.stepOut = (countTick s).stepOut ∧
    t.pulseTimer = s.pulseTimer - 1 ∧ (t.head = s.tail → t.live = false ∧ t.dirOut = s.dirOut ∧ t.db = s.db)

/-- R139: Bresenham, the STEP lines, the pulse timer and the positions, axis by axis. -/
def Obligations.StepPulsesEachAxis : Prop :=
  ∀ (m : Move) (s : State),
    (∀ a : Fin 8, m.delta[a].toNat ≤ m.totalSteps.toNat) →
    (∀ a : Fin 8, a.val < s.cfg.nAxes → s.bres[a].toNat < m.totalSteps.toNat) →
    let t := stepPulses m s
    (∀ a : Fin 8, a.val < s.cfg.nAxes →
      (m.totalSteps.toNat ≤ s.bres[a].toNat + m.delta[a].toNat →
        t.stepOut.getLsbD a.val = true ∧
        t.bres[a].toNat + m.totalSteps.toNat = s.bres[a].toNat + m.delta[a].toNat ∧
        t.pos[a] = (if s.dirOut.getLsbD a.val then s.pos[a] - 1 else s.pos[a] + 1)) ∧
      (s.bres[a].toNat + m.delta[a].toNat < m.totalSteps.toNat →
        t.stepOut.getLsbD a.val = false ∧ t.bres[a].toNat = s.bres[a].toNat + m.delta[a].toNat ∧
        t.pos[a] = s.pos[a])) ∧
    (∀ a : Fin 8, s.cfg.nAxes ≤ a.val →
      t.stepOut.getLsbD a.val = false ∧ t.bres[a] = s.bres[a] ∧ t.pos[a] = s.pos[a]) ∧
    t.pulseTimer = s.cfg.stepPulseTicks ∧
    t = { s with bres := t.bres, pos := t.pos, stepOut := t.stepOut, pulseTimer := t.pulseTimer }

/-- R145 items (a) and (b): after k steps of one move axis a has pulsed `(T div 2 + k·delta) div T` times, and after
all T of them exactly `delta` times, with the error term back at `T div 2`. -/
def Obligations.BresenhamFairnessAndConservation : Prop :=
  ∀ (m : Move) (s : State) (a : Fin 8), a.val < s.cfg.nAxes → 1 ≤ m.totalSteps.toNat →
    m.delta[a].toNat ≤ m.totalSteps.toNat → s.bres[a].toNat = m.totalSteps.toNat / 2 →
    (∀ k, ((stepPulses m)^[k] s).bres[a].toNat =
        (m.totalSteps.toNat / 2 + k * m.delta[a].toNat) % m.totalSteps.toNat ∧
      ((stepPulses m)^[k] s).pos[a] =
        (let n := BitVec.ofNat 32 ((m.totalSteps.toNat / 2 + k * m.delta[a].toNat) / m.totalSteps.toNat)
         if s.dirOut.getLsbD a.val then s.pos[a] - n else s.pos[a] + n)) ∧
    ((stepPulses m)^[m.totalSteps.toNat] s).bres[a] = s.bres[a] ∧
    ((stepPulses m)^[m.totalSteps.toNat] s).pos[a] =
      (if s.dirOut.getLsbD a.val then s.pos[a] - m.delta[a] else s.pos[a] + m.delta[a])

/-- R140, 45_endstop_debouncer.md R193: every watched channel is sampled, one hit ends the move, else `step_no + 1`.
The input is the model's draw (log 6): this holds whatever it answers. -/
def Obligations.EndstopHitEndsTheMove : Prop :=
  ∀ (m : Move) (s : State),
    let sees := fun b : Fin 16 => b.val < 2 * s.cfg.nAxes ∧ m.esmask.getLsbD b.val = true
    let flips := fun b : Fin 16 => s.esIn b ≠ s.db[b].level ∧ s.cfg.debounceSamples ≤ s.db[b].count + 1
    let t := stepEndstops m s
    ((∃ b, sees b ∧ flips b ∧ s.esIn b = m.escond) → t.stepNo = m.totalSteps) ∧
    ((¬∃ b, sees b ∧ flips b ∧ s.esIn b = m.escond) → t.stepNo = s.stepNo + 1) ∧
    (∀ b : Fin 16, ¬sees b → t.db[b] = s.db[b]) ∧
    (∀ b : Fin 16, sees b → flips b → t.db[b] = ⟨s.esIn b, 0⟩) ∧
    (∀ b : Fin 16, sees b → ¬flips b → t.db[b].level = s.db[b].level ∧
      t.db[b].count = if s.esIn b = s.db[b].level then 0 else s.db[b].count + 1) ∧
    t = { s with db := t.db, stepNo := t.stepNo, draws := t.draws }

/-- R145 item (c), R137: the direction lines change only at a move boundary, and then the next real fire is the end
of a no-op interval, `max(DIR_SETUP_TICKS, MIN_STEP_TICKS)` TICKs on, so that DIR is stable for DIR_SETUP_TICKS before a
STEP line rises (70_reset_and_hazards.md R259). -/
def Obligations.DirectionChangesOnlyAtMoveBoundary : Prop :=
  ∀ s : State, Inv s → (tick s).dirOut ≠ s.dirOut →
    (tick s).head ≠ s.head ∧ (tick s).live = true ∧ (tick s).dsp = true ∧
    ScheduledFor (tick s) (tick s).cnt (max s.cfg.dirSetupTicks s.cfg.minStepTicks)

/-- R126, R108: PA's minimum spacing: after a real fire of any state of a run the next MIN_STEP_TICKS - 1 TICKs make no
real fire, inside a move and across a move boundary. -/
def Obligations.RealFiresAreSpaced : Prop :=
  ∀ s : State, Inv s → s.realFireNext = true →
    ∀ k, k + 1 < s.cfg.minStepTicks → (tick^[k] (tick s)).realFireNext = false

/-- R144: COMPLETE frees the slot; the engine goes idle, or the next Move is loaded at once with the same anchor. -/
def Obligations.CompleteAdvancesTheHead : Prop :=
  ∀ s : State,
    let n := (s.head + 1) % (2 * s.cfg.queueCapacity)
    (n = s.tail → complete s = { s with head := n, live := false, phase := .none, rampN := 0 }) ∧
    (n ≠ s.tail → complete s = load { s with head := n, live := false, phase := .none, rampN := 0 } ∧
      (complete s).live = true ∧ (complete s).head = n ∧ (complete s).anchor = s.anchor)

/-- R142, R35: the STEP lines that rose with the pulse timer at P fall together in the P-th TICK after it, if no
other real fire comes before. -/
def Obligations.StepLinesFallTogether : Prop :=
  ∀ s : State, s.running = true → 1 ≤ s.pulseTimer →
    (∀ k, k < s.pulseTimer → (tick^[k] s).realFireNext = false) →
    (∀ k, k < s.pulseTimer → (tick^[k] s).stepOut = s.stepOut ∧ (tick^[k] s).pulseTimer = s.pulseTimer - k) ∧
    (tick^[s.pulseTimer] s).stepOut = 0 ∧ (tick^[s.pulseTimer] s).pulseTimer = 0

/-! ### 45_endstop_debouncer.md -/

/-- R192: the level changes at the N-th consecutive sample that differs from it, N = DEBOUNCE_SAMPLES, not before,
and a sample equal to it starts the count again. -/
def Obligations.DebounceCountsConsecutiveSamples : Prop :=
  ∀ (c : Config) (ch : Channel) (raw : Bool), 1 ≤ c.debounceSamples → raw ≠ ch.level → ch.count = 0 →
    let after := fun k : Nat => (fun x => (dbSample c raw x).1)^[k] ch
    (∀ k, k < c.debounceSamples → after k = ⟨ch.level, k⟩) ∧
    after c.debounceSamples = ⟨raw, 0⟩ ∧
    (∀ k, k < c.debounceSamples →
      ((dbSample c raw (after k)).2 = true ↔ k = c.debounceSamples - 1) ∧
      dbSample c ch.level (after k) = (⟨ch.level, 0⟩, false))

/-- R190, R195, 60_exceptions.md R214: an input outside the mask is not looked at: it can change neither a channel,
nor the step count, nor whether the move ends. That a STEP of a Move with mask 0 advances the draw number, the model's own
field, is the choice of log 6. -/
def Obligations.UnwatchedInputsHaveNoEffect : Prop :=
  ∀ (m : Move) (s : State) (p : Vector (Option Bool) 16),
    (∀ b : Fin 16, b.val < 2 * s.cfg.nAxes → m.esmask.getLsbD b.val = true → p[b] = s.pins[b]) →
    stepEndstops m { s with pins := p } = { stepEndstops m s with pins := p } ∧
    initWatched m { s with pins := p } = { initWatched m s with pins := p } ∧
    (m.esmask = 0 → stepEndstops m s = { s with stepNo := s.stepNo + 1, draws := s.draws + 1 })

/-! ### 10_state.md, 60_exceptions.md, 70_reset_and_hazards.md: whole-machine rules -/

/-- R236: the state after reset, field by field, and what the host reads just after it; and that reset from outside (R235)
answers it from every state. That the slot memory lists nothing stands for "unspecified" (log 8); that the model's own
fields (the draws and fixed inputs, the host's program and last value read, the schedule) stay is the choice of log 14. -/
def Obligations.ResetState : Prop :=
  (∀ s : State, turn .reset s = .next { State.resetWith s.cfg with
    draws := s.draws, pins := s.pins, readData := s.readData, program := s.program, schedule := s.schedule }) ∧
  ∀ c : Config,
    let s := State.resetWith c
    (∀ k : Fin 16, s.mv[k] = 0) ∧ s.live = false ∧ s.dsp = false ∧ s.stepNo = 0 ∧ s.cur = 0 ∧ s.rampN = 0 ∧
    s.cCruise = 0 ∧ (∀ a : Fin 8, s.bres[a] = 0 ∧ s.pos[a] = 0) ∧ s.phase = .none ∧ s.cnt = 0 ∧ s.ocrA = 0 ∧
    s.ocrB = 0 ∧ s.anchor = 0 ∧ s.stepArmed = false ∧ s.tickArmed = false ∧ s.nst = 0 ∧ s.sysTicks = 0 ∧
    s.tickBusy = false ∧ s.running = false ∧ s.estopped = false ∧ s.result = .ok ∧ s.head = 0 ∧ s.tail = 0 ∧
    s.stepOut = 0 ∧ s.dirOut = 0 ∧ s.pulseTimer = 0 ∧ s.drvEn = false ∧
    (∀ b : Fin 16, s.db[b].level = false ∧ s.db[b].count = 0) ∧
    (c.WellFormed → s.readReg Port.status = 0x00000028 ∧
      (∀ a : BitVec 6, a ≠ Port.status → a ≠ Port.es → s.readReg a = 0) ∧ (s.readReg Port.es).extractLsb' 0 16 = 0)

/-- The invariant holds after reset, under every configuration of the block. -/
def Obligations.ResetSatisfiesTheInvariant : Prop :=
  ∀ c : Config, c.WellFormed → Inv (State.resetWith c)

/-- R41, R42 and the ranges: every step keeps the invariant, whoever moves and whatever the inputs answer. -/
def Obligations.EveryStepKeepsTheInvariant : Prop :=
  ∀ s t : State, Inv s → step s = .next t → Inv t

/-- R210: nothing traps and nothing is stuck: under a configuration of the block every step answers a next state;
under any other the model refuses (log 2); and no step changes the configuration. -/
def Obligations.StepNeverFaults : Prop :=
  ∀ s : State,
    (s.cfg.WellFormed → ∃ t, step s = .next t ∧ t.cfg = s.cfg) ∧
    (¬s.cfg.WellFormed → step s = .refused .configInvalid)

/-- A step whose turn is the host's and whose next statement writes CMD is the command its word decodes to, after
the turn and the statement are taken off (44_controller_commands.md R175; the lists are the model's, logs 3, 5): a turn of
the host by itself, or one within a statement that runs to its end (log 12), which a CMD write does at once. -/
def Obligations.StepRunsTheDecodedCommand : Prop :=
  ∀ (s : State) (w : Word) (i : Instr) (rest : List HostStmt) (turns : List Turn), s.cfg.WellFormed →
    s.schedule = .agent .host :: turns ∨ s.schedule = .hostStatement :: turns →
    s.program = .wr Port.cmd w :: rest → decode w = some i →
    step s = exec i { s with schedule := turns, program := rest }

/-- R43, and for the commands what 43_move_queue.md R161, R162 and 44_controller_commands.md R176 to R179 write and list as
not written: who may write what. R43 names ESTOP and INIT as writers of some groups whole; which fields of a group they
leave alone is in R177 and R178. A TICK writes no field of the foreground, not `tail`, no slot and not `drv_en`. No command
writes `cnt`, `sys_ticks`, `tick_busy` or `MV`; only SETPOS writes `pos`; only ESTOP writes `head`; only PUSH and PUSH_HOME
write `tail`, the slots, `dir_out`, the debouncer, `step_no`, `bres`, `cur`, `c_cruise`, `anchor` and `ocr_a`. The tick body
writes its latch only. -/
def Obligations.OwnershipOfFields : Prop :=
  (∀ s : State, SameForeground s (tick s) ∧ (tick s).tail = s.tail ∧ (tick s).slots = s.slots ∧
    (tick s).drvEn = s.drvEn) ∧
  (∀ (i : Instr) (s t : State), exec i s = .next t →
    t.cnt = s.cnt ∧ t.sysTicks = s.sysTicks ∧ t.tickBusy = s.tickBusy ∧ t.mv = s.mv ∧
    (i ≠ .setpos → t.pos = s.pos) ∧ (i ≠ .estop → t.head = s.head) ∧
    ((∀ m c, i ≠ .pushHome m c) → i ≠ .push → t.tail = s.tail ∧ t.slots = s.slots ∧ t.dirOut = s.dirOut ∧
      t.db = s.db ∧ t.stepNo = s.stepNo ∧ t.bres = s.bres ∧ t.cur = s.cur ∧ t.cCruise = s.cCruise ∧
      t.anchor = s.anchor ∧ t.ocrA = s.ocrA)) ∧
  (∀ s t : State, turn .tickBody s = .next t → t = { s with tickBusy := t.tickBusy })

/-- R31, R24: `running` is set by INIT and cleared by reset only; `estopped` is set by ESTOP and cleared by INIT (or
reset) only. -/
def Obligations.ModeBitsChangeOnlyByTheirCommands : Prop :=
  ∀ s t : State, step s = .next t → s.nextTurn ≠ .reset →
    (s.running = true → t.running = true) ∧
    (s.running = false → t.running = true →
      s.nextTurn = .host ∧ ∃ w, decode w = some .init ∧ (s.program.head? = some (.wr Port.cmd w) ∨
        s.program.head? = some (.retryPush w) ∨ (s.program.head? = some (.wrLast Port.cmd) ∧ s.readData = w))) ∧
    (s.estopped ≠ t.estopped →
      s.nextTurn = .host ∧ ∃ w, decode w = some (if s.estopped then .init else .estop) ∧
        (s.program.head? = some (.wr Port.cmd w) ∨ s.program.head? = some (.retryPush w) ∨
          (s.program.head? = some (.wrLast Port.cmd) ∧ s.readData = w)))

/-- After ESTOP no compare fires: from every stopped state of a run any number of TICKs changes the counter only
(40_timer_scheduler.md R111, 44_controller_commands.md R178; 95_test_vectors.md V40-6). -/
def Obligations.AfterEstopOnlyTheCounterMoves : Prop :=
  ∀ (s : State) (n : Nat), Inv s → s.estopped = true → s.running = true →
    tick^[n] s = { s with cnt := (s.cnt + n) % s.cfg.range }

/-- R243: once the block is quiescent a TICK changes only `cnt`, `ocr_b`, `sys_ticks` and `tick_busy`, and the block
stays quiescent. -/
def Obligations.QuiescentBlockStaysQuiet : Prop :=
  ∀ s : State, Inv s → s.quiescent = true →
    (tick s).quiescent = true ∧
    tick s = { s with cnt := (tick s).cnt, ocrB := (tick s).ocrB, sysTicks := (tick s).sysTicks,
                      tickBusy := (tick s).tickBusy }

/-- 30_encoding.md R93: the loops of ENQ and WAIT_IDLE go round while RESULT reads 1 and while IDLE reads 0, and end
otherwise; one access a turn (log 12). Within a statement that runs to its end the `RD RESULT` follows its CMD write at
once, a loop that goes round lets one TICK pass, and a loop that ends gives the turn on (log 12). -/
def Obligations.HostLoopsEndOnTheirCondition : Prop :=
  ∀ (s : State) (w : Word) (rest : List HostStmt),
    (s.program = .retryCheck w :: rest → ∃ t, turn .host s = .next t ∧
      t = { s with readData := (resultCode s.result).setWidth 32, program := t.program } ∧
      t.program = if s.result = .queueFullBlocked then .retryPush w :: rest else rest) ∧
    (s.program = .waitIdle :: rest → ∃ t, turn .host s = .next t ∧
      t = { s with readData := s.statusWord, program := t.program } ∧
      t.program = if s.head = s.tail ∧ s.live = false then rest else .waitIdle :: rest) ∧
    (s.program = .retryPush w :: rest →
      turn .host s = command w { s with program := .retryCheck w :: rest }) ∧
    (∀ turns : List Turn, s.schedule = .hostStatement :: turns →
      s.nextTurn = .host ∧
      (s.program = .retryPush w :: rest → (nextAgent s).2 = s) ∧
      (s.program = .retryCheck w :: rest → (nextAgent s).2 = { s with
        schedule := if s.result = .queueFullBlocked then .agent .counter :: .hostStatement :: turns else turns }) ∧
      (s.program = .waitIdle :: rest → (nextAgent s).2 = { s with
        schedule := if s.head = s.tail ∧ s.live = false then turns
                    else .agent .counter :: .hostStatement :: turns }))

/-- R143, with R101 and R141: the TICK of a real fire on a live Move with steps is the count, the real fire's own writes
(R106), STEP's parts 1, 3 and 4 on the live Move, and part 5: COMPLETE when `step_no = T`, else `cur` and SCHED from
NEXT_INTERVAL; the tick service comes after it. -/
def Obligations.StepRunsItsPartsInOrder : Prop :=
  ∀ s : State, s.live = true → s.dsp = false → s.liveMove.dwell = false → s.realFireNext = true →
    let m := s.liveMove
    let u := { countTick s with anchor := s.ocrA, nst := 0, stepArmed := false }
    let v := stepEndstops m (stepPulses m u)
    let next := nextInterval v
    let w := if v.stepNo = m.totalSteps then complete v
             else callSched next.1.toNat { next.2.2 with cur := next.1 }
    tick s = if s.tickServiceNext then cmpB w else w

/-- 40_timer_scheduler.md R110: the tick body is not postponed for ever. A schedule of plain turns runs out, and every run
whose schedule runs out is fair: with no entry left a running tick body ends at once (the model's choice, log 16). -/
def Obligations.TickBodyIsNotPostponedForEver : Prop :=
  ∀ r : Nat → State, IsRun r →
    ((∀ e ∈ (r 0).schedule, ∃ g, e = .agent g) → ∃ n, (r n).schedule = []) ∧
    ((∃ n, (r n).schedule = []) → TickBodyFair r)
end

