-- ==== Sys2Proof/Laws/Arith.lean ====
section
/-! SUPPORT. Modular and floor arithmetic, words, and the consequences of a well-formed configuration. -/

namespace Sys2Proof.Machine

theorem word_toNat {n : Nat} (h : n < 2 ^ 32) : (word n).toNat = n := by
  simp only [word, BitVec.toNat_ofNat]; exact Nat.mod_eq_of_lt h

@[simp] theorem word_toNat_self (w : Word) : word w.toNat = w := by simp [word]

theorem portWord_toNat {n : Nat} (h : n < 2 ^ 32) : (portWord n).toNat = n := by
  rw [portWord, if_pos h, word_toNat h]

theorem floorDiv_of_pos {x y : Nat} (h : 0 < y) : floorDiv x y = x / y := if_neg (by omega)

/-! ### subMod -/

theorem subMod_lt {r : Nat} (x y : Nat) (h : 0 < r) : subMod r x y < r := Nat.mod_lt _ h

/-- `(x - y) mod r` in integers is what `subMod` computes (00_scope.md R13). -/
theorem subMod_eq_emod {r : Nat} (x y : Nat) (h : 0 < r) : (subMod r x y : Int) = ((x : Int) - y) % r := by
  have hy : y % r ≤ r := (Nat.mod_lt y h).le
  have e : (y : Int) = (y % r : Nat) + r * (y / r : Nat) := by exact_mod_cast (Nat.mod_add_div y r).symm
  unfold subMod
  push_cast [Nat.cast_sub hy]
  rw [show ((x : Int) + ((r : Int) - (y : Int) % r)) = (x - y) + r * (1 + (y : Int) / r) by
    have := Int.emod_add_mul_ediv (y : Int) r; linarith]
  exact Int.add_mul_emod_self_left _ _ _

theorem subMod_add {r x y : Nat} (h : 0 < r) (hx : x < r) : (subMod r x y + y) % r = x := by
  have hy : y % r ≤ r := (Nat.mod_lt y h).le
  unfold subMod
  rw [Nat.mod_add_mod, Nat.add_mod, Nat.add_mod x, ← Nat.add_mod x, ← Nat.add_mod]
  have : x + (r - y % r) + y = x + r * (1 + y / r) := by
    have := Nat.mod_add_div y r; rw [Nat.mul_add]; omega
  rw [this, Nat.add_mul_mod_self_left, Nat.mod_eq_of_lt hx]

@[simp] theorem subMod_self {r : Nat} (x : Nat) (h : 0 < r) : subMod r x x = 0 := by
  have := subMod_eq_emod x x h
  simpa using this

theorem subMod_eq_zero_iff {r x y : Nat} (h : 0 < r) (hx : x < r) (hy : y < r) : subMod r x y = 0 ↔ x = y := by
  constructor
  · intro e
    have := subMod_add (y := y) h hx
    rw [e, Nat.zero_add, Nat.mod_eq_of_lt hy] at this
    exact this.symm
  · rintro rfl; exact subMod_self x h

theorem subMod_small {r x y : Nat} (hx : x < r) (hy : y < r) :
    subMod r x y = if y ≤ x then x - y else x + r - y := by
  unfold subMod
  rw [Nat.mod_eq_of_lt hy]
  split
  · rw [show x + (r - y) = (x - y) + r by omega, Nat.add_mod_right, Nat.mod_eq_of_lt (by omega)]
  · rw [Nat.mod_eq_of_lt (by omega)]; omega

theorem succ_mod_small {r x : Nat} (hx : x < r) : (x + 1) % r = if x + 1 = r then 0 else x + 1 := by
  split
  · next e => rw [e, Nat.mod_self]
  · exact Nat.mod_eq_of_lt (by omega)

theorem add_mod_small {r x y : Nat} (hx : x < r) (hy : y < r) :
    (x + y) % r = if x + y < r then x + y else x + y - r := by
  split
  · next e => exact Nat.mod_eq_of_lt e
  · rw [Nat.mod_eq_sub_mod (by omega), Nat.mod_eq_of_lt (by omega)]

/-! ### The ring -/

theorem nextIndex_lt {c : Config} (i : Nat) (h : 0 < c.ringMod) : nextIndex c i < c.ringMod := Nat.mod_lt _ h

/-- One more at the tail (43_move_queue.md R156). -/
theorem subMod_succ_left {r x y : Nat} (hx : x < r) (hy : y < r) (h : subMod r x y + 1 < r) :
    subMod r ((x + 1) % r) y = subMod r x y + 1 := by
  rw [subMod_small hx hy] at h
  rw [subMod_small hx hy, succ_mod_small hx]
  by_cases e : x + 1 = r
  · rw [if_pos e, subMod_small (by omega) hy]
    split_ifs at h ⊢ <;> omega
  · rw [if_neg e, subMod_small (by omega) hy]
    split_ifs at h ⊢ <;> omega

/-- One less at the head. -/
theorem subMod_succ_right {r x y : Nat} (hx : x < r) (hy : y < r) (h : 0 < subMod r x y) :
    subMod r x ((y + 1) % r) = subMod r x y - 1 := by
  rw [subMod_small hx hy] at h
  rw [subMod_small hx hy, succ_mod_small hy]
  by_cases e : y + 1 = r
  · rw [if_pos e, subMod_small hx (by omega)]
    split_ifs at h ⊢ <;> omega
  · rw [if_neg e, subMod_small hx (by omega)]
    split_ifs at h ⊢ <;> omega

/-! ### A well-formed configuration -/

theorem range_pos (c : Config) : 0 < c.range := Nat.two_pow_pos _

namespace WF

variable {c : Config} (h : c.WellFormed)
include h

theorem range_le : c.range ≤ 2 ^ 32 := Nat.pow_le_pow_right (by norm_num) h.2.1.2
theorem guard_pos : 1 ≤ c.counterGuard := h.2.2.2.2.2.1.1
theorem guard_le : 2 * c.counterGuard ≤ c.range := h.2.2.2.2.2.1.2
theorem min_pos : 1 ≤ c.minStepTicks := h.2.2.2.2.2.2.1.1
theorem min_lt : c.minStepTicks < c.range := h.2.2.2.2.2.2.1.2
theorem min_lt_word : c.minStepTicks < 2 ^ 32 := lt_of_lt_of_le (min_lt h) (range_le h)
theorem pulse_pos : 1 ≤ c.stepPulseTicks := h.2.2.2.2.2.2.2.1.1
theorem pulse_lt : c.stepPulseTicks < c.minStepTicks := h.2.2.2.2.2.2.2.1.2
theorem debounce_pos : 1 ≤ c.debounceSamples := h.2.2.2.2.2.2.2.2
theorem cap_pos : 1 ≤ c.queueCapacity := h.2.2.2.2.1
theorem axes_le : c.nAxes ≤ 8 := h.1.2
theorem axes_pos : 1 ≤ c.nAxes := h.1.1
theorem freq_lt : c.cpuFreq < 2 ^ 32 := h.2.2.1.2
theorem ring_pos : 0 < c.ringMod := by have := cap_pos h; unfold Config.ringMod; omega

/-- With a counter of 32 bits every delay is below R; with fewer `R + 2·G` fits in a word (10_state.md R28). -/
theorem guard_fits {d : Nat} (hd : d < 2 ^ 32) (h1 : c.range ≤ d) (h2 : d < c.range + c.counterGuard) :
    d + c.counterGuard < 2 ^ 32 := by
  have hb : c.counterBits ≠ 32 := by
    intro e; unfold Config.range at h1; rw [e] at h1; omega
  have hb' : c.counterBits ≤ 31 := by have := h.2.1.2; omega
  have hr : c.range ≤ 2 ^ 31 := Nat.pow_le_pow_right (by norm_num) hb'
  have := guard_le h
  omega

end WF

end Sys2Proof.Machine
end

