-- ==== Sys2Proof/Laws/State.lean ====
section
/-! SUPPORT. One lemma per field and named update of State, each true by `rfl`: later proofs cite these instead of unfolding
a record update. -/

namespace Sys2Proof.Machine

/-! ### State.answer -/

@[simp] theorem State.answer_cfg (s : State) (c : Result) : (s.answer c).cfg = s.cfg := rfl
@[simp] theorem State.answer_mv (s : State) (c : Result) : (s.answer c).mv = s.mv := rfl
@[simp] theorem State.answer_live (s : State) (c : Result) : (s.answer c).live = s.live := rfl
@[simp] theorem State.answer_stepNo (s : State) (c : Result) : (s.answer c).stepNo = s.stepNo := rfl
@[simp] theorem State.answer_bres (s : State) (c : Result) : (s.answer c).bres = s.bres := rfl
@[simp] theorem State.answer_cur (s : State) (c : Result) : (s.answer c).cur = s.cur := rfl
@[simp] theorem State.answer_phase (s : State) (c : Result) : (s.answer c).phase = s.phase := rfl
@[simp] theorem State.answer_rampN (s : State) (c : Result) : (s.answer c).rampN = s.rampN := rfl
@[simp] theorem State.answer_cCruise (s : State) (c : Result) : (s.answer c).cCruise = s.cCruise := rfl
@[simp] theorem State.answer_dsp (s : State) (c : Result) : (s.answer c).dsp = s.dsp := rfl
@[simp] theorem State.answer_cnt (s : State) (c : Result) : (s.answer c).cnt = s.cnt := rfl
@[simp] theorem State.answer_ocrA (s : State) (c : Result) : (s.answer c).ocrA = s.ocrA := rfl
@[simp] theorem State.answer_stepArmed (s : State) (c : Result) : (s.answer c).stepArmed = s.stepArmed := rfl
@[simp] theorem State.answer_ocrB (s : State) (c : Result) : (s.answer c).ocrB = s.ocrB := rfl
@[simp] theorem State.answer_tickArmed (s : State) (c : Result) : (s.answer c).tickArmed = s.tickArmed := rfl
@[simp] theorem State.answer_nst (s : State) (c : Result) : (s.answer c).nst = s.nst := rfl
@[simp] theorem State.answer_anchor (s : State) (c : Result) : (s.answer c).anchor = s.anchor := rfl
@[simp] theorem State.answer_sysTicks (s : State) (c : Result) : (s.answer c).sysTicks = s.sysTicks := rfl
@[simp] theorem State.answer_tickBusy (s : State) (c : Result) : (s.answer c).tickBusy = s.tickBusy := rfl
@[simp] theorem State.answer_running (s : State) (c : Result) : (s.answer c).running = s.running := rfl
@[simp] theorem State.answer_estopped (s : State) (c : Result) : (s.answer c).estopped = s.estopped := rfl
@[simp] theorem State.answer_result (s : State) (c : Result) : (s.answer c).result = c := rfl
@[simp] theorem State.answer_slots (s : State) (c : Result) : (s.answer c).slots = s.slots := rfl
@[simp] theorem State.answer_head (s : State) (c : Result) : (s.answer c).head = s.head := rfl
@[simp] theorem State.answer_tail (s : State) (c : Result) : (s.answer c).tail = s.tail := rfl
@[simp] theorem State.answer_stepOut (s : State) (c : Result) : (s.answer c).stepOut = s.stepOut := rfl
@[simp] theorem State.answer_pulseTimer (s : State) (c : Result) : (s.answer c).pulseTimer = s.pulseTimer := rfl
@[simp] theorem State.answer_dirOut (s : State) (c : Result) : (s.answer c).dirOut = s.dirOut := rfl
@[simp] theorem State.answer_drvEn (s : State) (c : Result) : (s.answer c).drvEn = s.drvEn := rfl
@[simp] theorem State.answer_pos (s : State) (c : Result) : (s.answer c).pos = s.pos := rfl
@[simp] theorem State.answer_db (s : State) (c : Result) : (s.answer c).db = s.db := rfl
@[simp] theorem State.answer_draws (s : State) (c : Result) : (s.answer c).draws = s.draws := rfl
@[simp] theorem State.answer_pins (s : State) (c : Result) : (s.answer c).pins = s.pins := rfl
@[simp] theorem State.answer_readData (s : State) (c : Result) : (s.answer c).readData = s.readData := rfl
@[simp] theorem State.answer_program (s : State) (c : Result) : (s.answer c).program = s.program := rfl
@[simp] theorem State.answer_schedule (s : State) (c : Result) : (s.answer c).schedule = s.schedule := rfl

/-! ### State.storeSlot -/

@[simp] theorem State.storeSlot_cfg (s : State) (i : Nat) (m : Move) : (s.storeSlot i m).cfg = s.cfg := rfl
@[simp] theorem State.storeSlot_mv (s : State) (i : Nat) (m : Move) : (s.storeSlot i m).mv = s.mv := rfl
@[simp] theorem State.storeSlot_live (s : State) (i : Nat) (m : Move) : (s.storeSlot i m).live = s.live := rfl
@[simp] theorem State.storeSlot_stepNo (s : State) (i : Nat) (m : Move) : (s.storeSlot i m).stepNo = s.stepNo := rfl
@[simp] theorem State.storeSlot_bres (s : State) (i : Nat) (m : Move) : (s.storeSlot i m).bres = s.bres := rfl
@[simp] theorem State.storeSlot_cur (s : State) (i : Nat) (m : Move) : (s.storeSlot i m).cur = s.cur := rfl
@[simp] theorem State.storeSlot_phase (s : State) (i : Nat) (m : Move) : (s.storeSlot i m).phase = s.phase := rfl
@[simp] theorem State.storeSlot_rampN (s : State) (i : Nat) (m : Move) : (s.storeSlot i m).rampN = s.rampN := rfl
@[simp] theorem State.storeSlot_cCruise (s : State) (i : Nat) (m : Move) : (s.storeSlot i m).cCruise = s.cCruise := rfl
@[simp] theorem State.storeSlot_dsp (s : State) (i : Nat) (m : Move) : (s.storeSlot i m).dsp = s.dsp := rfl
@[simp] theorem State.storeSlot_cnt (s : State) (i : Nat) (m : Move) : (s.storeSlot i m).cnt = s.cnt := rfl
@[simp] theorem State.storeSlot_ocrA (s : State) (i : Nat) (m : Move) : (s.storeSlot i m).ocrA = s.ocrA := rfl
@[simp] theorem State.storeSlot_stepArmed (s : State) (i : Nat) (m : Move) : (s.storeSlot i m).stepArmed = s.stepArmed := rfl
@[simp] theorem State.storeSlot_ocrB (s : State) (i : Nat) (m : Move) : (s.storeSlot i m).ocrB = s.ocrB := rfl
@[simp] theorem State.storeSlot_tickArmed (s : State) (i : Nat) (m : Move) : (s.storeSlot i m).tickArmed = s.tickArmed := rfl
@[simp] theorem State.storeSlot_nst (s : State) (i : Nat) (m : Move) : (s.storeSlot i m).nst = s.nst := rfl
@[simp] theorem State.storeSlot_anchor (s : State) (i : Nat) (m : Move) : (s.storeSlot i m).anchor = s.anchor := rfl
@[simp] theorem State.storeSlot_sysTicks (s : State) (i : Nat) (m : Move) : (s.storeSlot i m).sysTicks = s.sysTicks := rfl
@[simp] theorem State.storeSlot_tickBusy (s : State) (i : Nat) (m : Move) : (s.storeSlot i m).tickBusy = s.tickBusy := rfl
@[simp] theorem State.storeSlot_running (s : State) (i : Nat) (m : Move) : (s.storeSlot i m).running = s.running := rfl
@[simp] theorem State.storeSlot_estopped (s : State) (i : Nat) (m : Move) : (s.storeSlot i m).estopped = s.estopped := rfl
@[simp] theorem State.storeSlot_result (s : State) (i : Nat) (m : Move) : (s.storeSlot i m).result = s.result := rfl
@[simp] theorem State.storeSlot_slots (s : State) (i : Nat) (m : Move) : (s.storeSlot i m).slots = Memory.writeSlot s.slots (i % s.cfg.queueCapacity) m := rfl
@[simp] theorem State.storeSlot_head (s : State) (i : Nat) (m : Move) : (s.storeSlot i m).head = s.head := rfl
@[simp] theorem State.storeSlot_tail (s : State) (i : Nat) (m : Move) : (s.storeSlot i m).tail = s.tail := rfl
@[simp] theorem State.storeSlot_stepOut (s : State) (i : Nat) (m : Move) : (s.storeSlot i m).stepOut = s.stepOut := rfl
@[simp] theorem State.storeSlot_pulseTimer (s : State) (i : Nat) (m : Move) : (s.storeSlot i m).pulseTimer = s.pulseTimer := rfl
@[simp] theorem State.storeSlot_dirOut (s : State) (i : Nat) (m : Move) : (s.storeSlot i m).dirOut = s.dirOut := rfl
@[simp] theorem State.storeSlot_drvEn (s : State) (i : Nat) (m : Move) : (s.storeSlot i m).drvEn = s.drvEn := rfl
@[simp] theorem State.storeSlot_pos (s : State) (i : Nat) (m : Move) : (s.storeSlot i m).pos = s.pos := rfl
@[simp] theorem State.storeSlot_db (s : State) (i : Nat) (m : Move) : (s.storeSlot i m).db = s.db := rfl
@[simp] theorem State.storeSlot_draws (s : State) (i : Nat) (m : Move) : (s.storeSlot i m).draws = s.draws := rfl
@[simp] theorem State.storeSlot_pins (s : State) (i : Nat) (m : Move) : (s.storeSlot i m).pins = s.pins := rfl
@[simp] theorem State.storeSlot_readData (s : State) (i : Nat) (m : Move) : (s.storeSlot i m).readData = s.readData := rfl
@[simp] theorem State.storeSlot_program (s : State) (i : Nat) (m : Move) : (s.storeSlot i m).program = s.program := rfl
@[simp] theorem State.storeSlot_schedule (s : State) (i : Nat) (m : Move) : (s.storeSlot i m).schedule = s.schedule := rfl

/-! ### State.nextDraw -/

@[simp] theorem State.nextDraw_cfg (s : State) : s.nextDraw.cfg = s.cfg := rfl
@[simp] theorem State.nextDraw_mv (s : State) : s.nextDraw.mv = s.mv := rfl
@[simp] theorem State.nextDraw_live (s : State) : s.nextDraw.live = s.live := rfl
@[simp] theorem State.nextDraw_stepNo (s : State) : s.nextDraw.stepNo = s.stepNo := rfl
@[simp] theorem State.nextDraw_bres (s : State) : s.nextDraw.bres = s.bres := rfl
@[simp] theorem State.nextDraw_cur (s : State) : s.nextDraw.cur = s.cur := rfl
@[simp] theorem State.nextDraw_phase (s : State) : s.nextDraw.phase = s.phase := rfl
@[simp] theorem State.nextDraw_rampN (s : State) : s.nextDraw.rampN = s.rampN := rfl
@[simp] theorem State.nextDraw_cCruise (s : State) : s.nextDraw.cCruise = s.cCruise := rfl
@[simp] theorem State.nextDraw_dsp (s : State) : s.nextDraw.dsp = s.dsp := rfl
@[simp] theorem State.nextDraw_cnt (s : State) : s.nextDraw.cnt = s.cnt := rfl
@[simp] theorem State.nextDraw_ocrA (s : State) : s.nextDraw.ocrA = s.ocrA := rfl
@[simp] theorem State.nextDraw_stepArmed (s : State) : s.nextDraw.stepArmed = s.stepArmed := rfl
@[simp] theorem State.nextDraw_ocrB (s : State) : s.nextDraw.ocrB = s.ocrB := rfl
@[simp] theorem State.nextDraw_tickArmed (s : State) : s.nextDraw.tickArmed = s.tickArmed := rfl
@[simp] theorem State.nextDraw_nst (s : State) : s.nextDraw.nst = s.nst := rfl
@[simp] theorem State.nextDraw_anchor (s : State) : s.nextDraw.anchor = s.anchor := rfl
@[simp] theorem State.nextDraw_sysTicks (s : State) : s.nextDraw.sysTicks = s.sysTicks := rfl
@[simp] theorem State.nextDraw_tickBusy (s : State) : s.nextDraw.tickBusy = s.tickBusy := rfl
@[simp] theorem State.nextDraw_running (s : State) : s.nextDraw.running = s.running := rfl
@[simp] theorem State.nextDraw_estopped (s : State) : s.nextDraw.estopped = s.estopped := rfl
@[simp] theorem State.nextDraw_result (s : State) : s.nextDraw.result = s.result := rfl
@[simp] theorem State.nextDraw_slots (s : State) : s.nextDraw.slots = s.slots := rfl
@[simp] theorem State.nextDraw_head (s : State) : s.nextDraw.head = s.head := rfl
@[simp] theorem State.nextDraw_tail (s : State) : s.nextDraw.tail = s.tail := rfl
@[simp] theorem State.nextDraw_stepOut (s : State) : s.nextDraw.stepOut = s.stepOut := rfl
@[simp] theorem State.nextDraw_pulseTimer (s : State) : s.nextDraw.pulseTimer = s.pulseTimer := rfl
@[simp] theorem State.nextDraw_dirOut (s : State) : s.nextDraw.dirOut = s.dirOut := rfl
@[simp] theorem State.nextDraw_drvEn (s : State) : s.nextDraw.drvEn = s.drvEn := rfl
@[simp] theorem State.nextDraw_pos (s : State) : s.nextDraw.pos = s.pos := rfl
@[simp] theorem State.nextDraw_db (s : State) : s.nextDraw.db = s.db := rfl
@[simp] theorem State.nextDraw_draws (s : State) : s.nextDraw.draws = s.draws + 1 := rfl
@[simp] theorem State.nextDraw_pins (s : State) : s.nextDraw.pins = s.pins := rfl
@[simp] theorem State.nextDraw_readData (s : State) : s.nextDraw.readData = s.readData := rfl
@[simp] theorem State.nextDraw_program (s : State) : s.nextDraw.program = s.program := rfl
@[simp] theorem State.nextDraw_schedule (s : State) : s.nextDraw.schedule = s.schedule := rfl

/-! ### State.clearEngine -/

@[simp] theorem State.clearEngine_cfg (s : State) : s.clearEngine.cfg = s.cfg := rfl
@[simp] theorem State.clearEngine_mv (s : State) : s.clearEngine.mv = s.mv := rfl
@[simp] theorem State.clearEngine_live (s : State) : s.clearEngine.live = false := rfl
@[simp] theorem State.clearEngine_stepNo (s : State) : s.clearEngine.stepNo = s.stepNo := rfl
@[simp] theorem State.clearEngine_bres (s : State) : s.clearEngine.bres = s.bres := rfl
@[simp] theorem State.clearEngine_cur (s : State) : s.clearEngine.cur = s.cur := rfl
@[simp] theorem State.clearEngine_phase (s : State) : s.clearEngine.phase = .none := rfl
@[simp] theorem State.clearEngine_rampN (s : State) : s.clearEngine.rampN = 0 := rfl
@[simp] theorem State.clearEngine_cCruise (s : State) : s.clearEngine.cCruise = s.cCruise := rfl
@[simp] theorem State.clearEngine_dsp (s : State) : s.clearEngine.dsp = false := rfl
@[simp] theorem State.clearEngine_cnt (s : State) : s.clearEngine.cnt = s.cnt := rfl
@[simp] theorem State.clearEngine_ocrA (s : State) : s.clearEngine.ocrA = s.ocrA := rfl
@[simp] theorem State.clearEngine_stepArmed (s : State) : s.clearEngine.stepArmed = s.stepArmed := rfl
@[simp] theorem State.clearEngine_ocrB (s : State) : s.clearEngine.ocrB = s.ocrB := rfl
@[simp] theorem State.clearEngine_tickArmed (s : State) : s.clearEngine.tickArmed = s.tickArmed := rfl
@[simp] theorem State.clearEngine_nst (s : State) : s.clearEngine.nst = s.nst := rfl
@[simp] theorem State.clearEngine_anchor (s : State) : s.clearEngine.anchor = s.anchor := rfl
@[simp] theorem State.clearEngine_sysTicks (s : State) : s.clearEngine.sysTicks = s.sysTicks := rfl
@[simp] theorem State.clearEngine_tickBusy (s : State) : s.clearEngine.tickBusy = s.tickBusy := rfl
@[simp] theorem State.clearEngine_running (s : State) : s.clearEngine.running = s.running := rfl
@[simp] theorem State.clearEngine_estopped (s : State) : s.clearEngine.estopped = s.estopped := rfl
@[simp] theorem State.clearEngine_result (s : State) : s.clearEngine.result = s.result := rfl
@[simp] theorem State.clearEngine_slots (s : State) : s.clearEngine.slots = s.slots := rfl
@[simp] theorem State.clearEngine_head (s : State) : s.clearEngine.head = s.head := rfl
@[simp] theorem State.clearEngine_tail (s : State) : s.clearEngine.tail = s.tail := rfl
@[simp] theorem State.clearEngine_stepOut (s : State) : s.clearEngine.stepOut = 0 := rfl
@[simp] theorem State.clearEngine_pulseTimer (s : State) : s.clearEngine.pulseTimer = 0 := rfl
@[simp] theorem State.clearEngine_dirOut (s : State) : s.clearEngine.dirOut = s.dirOut := rfl
@[simp] theorem State.clearEngine_drvEn (s : State) : s.clearEngine.drvEn = s.drvEn := rfl
@[simp] theorem State.clearEngine_pos (s : State) : s.clearEngine.pos = s.pos := rfl
@[simp] theorem State.clearEngine_db (s : State) : s.clearEngine.db = s.db := rfl
@[simp] theorem State.clearEngine_draws (s : State) : s.clearEngine.draws = s.draws := rfl
@[simp] theorem State.clearEngine_pins (s : State) : s.clearEngine.pins = s.pins := rfl
@[simp] theorem State.clearEngine_readData (s : State) : s.clearEngine.readData = s.readData := rfl
@[simp] theorem State.clearEngine_program (s : State) : s.clearEngine.program = s.program := rfl
@[simp] theorem State.clearEngine_schedule (s : State) : s.clearEngine.schedule = s.schedule := rfl

/-! ### State.arm -/

@[simp] theorem State.arm_cfg (s : State) (d : Nat) : (s.arm d).cfg = s.cfg := rfl
@[simp] theorem State.arm_mv (s : State) (d : Nat) : (s.arm d).mv = s.mv := rfl
@[simp] theorem State.arm_live (s : State) (d : Nat) : (s.arm d).live = s.live := rfl
@[simp] theorem State.arm_stepNo (s : State) (d : Nat) : (s.arm d).stepNo = s.stepNo := rfl
@[simp] theorem State.arm_bres (s : State) (d : Nat) : (s.arm d).bres = s.bres := rfl
@[simp] theorem State.arm_cur (s : State) (d : Nat) : (s.arm d).cur = s.cur := rfl
@[simp] theorem State.arm_phase (s : State) (d : Nat) : (s.arm d).phase = s.phase := rfl
@[simp] theorem State.arm_rampN (s : State) (d : Nat) : (s.arm d).rampN = s.rampN := rfl
@[simp] theorem State.arm_cCruise (s : State) (d : Nat) : (s.arm d).cCruise = s.cCruise := rfl
@[simp] theorem State.arm_dsp (s : State) (d : Nat) : (s.arm d).dsp = s.dsp := rfl
@[simp] theorem State.arm_cnt (s : State) (d : Nat) : (s.arm d).cnt = s.cnt := rfl
@[simp] theorem State.arm_stepArmed (s : State) (d : Nat) : (s.arm d).stepArmed = true := rfl
@[simp] theorem State.arm_ocrB (s : State) (d : Nat) : (s.arm d).ocrB = s.ocrB := rfl
@[simp] theorem State.arm_tickArmed (s : State) (d : Nat) : (s.arm d).tickArmed = s.tickArmed := rfl
@[simp] theorem State.arm_anchor (s : State) (d : Nat) : (s.arm d).anchor = s.anchor := rfl
@[simp] theorem State.arm_sysTicks (s : State) (d : Nat) : (s.arm d).sysTicks = s.sysTicks := rfl
@[simp] theorem State.arm_tickBusy (s : State) (d : Nat) : (s.arm d).tickBusy = s.tickBusy := rfl
@[simp] theorem State.arm_running (s : State) (d : Nat) : (s.arm d).running = s.running := rfl
@[simp] theorem State.arm_estopped (s : State) (d : Nat) : (s.arm d).estopped = s.estopped := rfl
@[simp] theorem State.arm_result (s : State) (d : Nat) : (s.arm d).result = s.result := rfl
@[simp] theorem State.arm_slots (s : State) (d : Nat) : (s.arm d).slots = s.slots := rfl
@[simp] theorem State.arm_head (s : State) (d : Nat) : (s.arm d).head = s.head := rfl
@[simp] theorem State.arm_tail (s : State) (d : Nat) : (s.arm d).tail = s.tail := rfl
@[simp] theorem State.arm_stepOut (s : State) (d : Nat) : (s.arm d).stepOut = s.stepOut := rfl
@[simp] theorem State.arm_pulseTimer (s : State) (d : Nat) : (s.arm d).pulseTimer = s.pulseTimer := rfl
@[simp] theorem State.arm_dirOut (s : State) (d : Nat) : (s.arm d).dirOut = s.dirOut := rfl
@[simp] theorem State.arm_drvEn (s : State) (d : Nat) : (s.arm d).drvEn = s.drvEn := rfl
@[simp] theorem State.arm_pos (s : State) (d : Nat) : (s.arm d).pos = s.pos := rfl
@[simp] theorem State.arm_db (s : State) (d : Nat) : (s.arm d).db = s.db := rfl
@[simp] theorem State.arm_draws (s : State) (d : Nat) : (s.arm d).draws = s.draws := rfl
@[simp] theorem State.arm_pins (s : State) (d : Nat) : (s.arm d).pins = s.pins := rfl
@[simp] theorem State.arm_readData (s : State) (d : Nat) : (s.arm d).readData = s.readData := rfl
@[simp] theorem State.arm_program (s : State) (d : Nat) : (s.arm d).program = s.program := rfl
@[simp] theorem State.arm_schedule (s : State) (d : Nat) : (s.arm d).schedule = s.schedule := rfl

/-! ### timerInit -/

@[simp] theorem timerInit_cfg (s : State) : (timerInit s).cfg = s.cfg := rfl
@[simp] theorem timerInit_mv (s : State) : (timerInit s).mv = s.mv := rfl
@[simp] theorem timerInit_live (s : State) : (timerInit s).live = s.live := rfl
@[simp] theorem timerInit_stepNo (s : State) : (timerInit s).stepNo = s.stepNo := rfl
@[simp] theorem timerInit_bres (s : State) : (timerInit s).bres = s.bres := rfl
@[simp] theorem timerInit_cur (s : State) : (timerInit s).cur = s.cur := rfl
@[simp] theorem timerInit_phase (s : State) : (timerInit s).phase = s.phase := rfl
@[simp] theorem timerInit_rampN (s : State) : (timerInit s).rampN = s.rampN := rfl
@[simp] theorem timerInit_cCruise (s : State) : (timerInit s).cCruise = s.cCruise := rfl
@[simp] theorem timerInit_dsp (s : State) : (timerInit s).dsp = s.dsp := rfl
@[simp] theorem timerInit_cnt (s : State) : (timerInit s).cnt = s.cnt := rfl
@[simp] theorem timerInit_ocrA (s : State) : (timerInit s).ocrA = s.ocrA := rfl
@[simp] theorem timerInit_stepArmed (s : State) : (timerInit s).stepArmed = false := rfl
@[simp] theorem timerInit_ocrB (s : State) : (timerInit s).ocrB = (s.cnt + s.cfg.tickTime) % s.cfg.range := rfl
@[simp] theorem timerInit_tickArmed (s : State) : (timerInit s).tickArmed = true := rfl
@[simp] theorem timerInit_nst (s : State) : (timerInit s).nst = 0 := rfl
@[simp] theorem timerInit_anchor (s : State) : (timerInit s).anchor = s.anchor := rfl
@[simp] theorem timerInit_sysTicks (s : State) : (timerInit s).sysTicks = s.sysTicks := rfl
@[simp] theorem timerInit_tickBusy (s : State) : (timerInit s).tickBusy = s.tickBusy := rfl
@[simp] theorem timerInit_running (s : State) : (timerInit s).running = true := rfl
@[simp] theorem timerInit_estopped (s : State) : (timerInit s).estopped = s.estopped := rfl
@[simp] theorem timerInit_result (s : State) : (timerInit s).result = s.result := rfl
@[simp] theorem timerInit_slots (s : State) : (timerInit s).slots = s.slots := rfl
@[simp] theorem timerInit_head (s : State) : (timerInit s).head = s.head := rfl
@[simp] theorem timerInit_tail (s : State) : (timerInit s).tail = s.tail := rfl
@[simp] theorem timerInit_stepOut (s : State) : (timerInit s).stepOut = s.stepOut := rfl
@[simp] theorem timerInit_pulseTimer (s : State) : (timerInit s).pulseTimer = s.pulseTimer := rfl
@[simp] theorem timerInit_dirOut (s : State) : (timerInit s).dirOut = s.dirOut := rfl
@[simp] theorem timerInit_drvEn (s : State) : (timerInit s).drvEn = s.drvEn := rfl
@[simp] theorem timerInit_pos (s : State) : (timerInit s).pos = s.pos := rfl
@[simp] theorem timerInit_db (s : State) : (timerInit s).db = s.db := rfl
@[simp] theorem timerInit_draws (s : State) : (timerInit s).draws = s.draws := rfl
@[simp] theorem timerInit_pins (s : State) : (timerInit s).pins = s.pins := rfl
@[simp] theorem timerInit_readData (s : State) : (timerInit s).readData = s.readData := rfl
@[simp] theorem timerInit_program (s : State) : (timerInit s).program = s.program := rfl
@[simp] theorem timerInit_schedule (s : State) : (timerInit s).schedule = s.schedule := rfl

/-! ### stop -/

@[simp] theorem stop_cfg (s : State) : (stop s).cfg = s.cfg := rfl
@[simp] theorem stop_mv (s : State) : (stop s).mv = s.mv := rfl
@[simp] theorem stop_live (s : State) : (stop s).live = s.live := rfl
@[simp] theorem stop_stepNo (s : State) : (stop s).stepNo = s.stepNo := rfl
@[simp] theorem stop_bres (s : State) : (stop s).bres = s.bres := rfl
@[simp] theorem stop_cur (s : State) : (stop s).cur = s.cur := rfl
@[simp] theorem stop_phase (s : State) : (stop s).phase = s.phase := rfl
@[simp] theorem stop_rampN (s : State) : (stop s).rampN = s.rampN := rfl
@[simp] theorem stop_cCruise (s : State) : (stop s).cCruise = s.cCruise := rfl
@[simp] theorem stop_dsp (s : State) : (stop s).dsp = s.dsp := rfl
@[simp] theorem stop_cnt (s : State) : (stop s).cnt = s.cnt := rfl
@[simp] theorem stop_ocrA (s : State) : (stop s).ocrA = s.ocrA := rfl
@[simp] theorem stop_stepArmed (s : State) : (stop s).stepArmed = false := rfl
@[simp] theorem stop_ocrB (s : State) : (stop s).ocrB = s.ocrB := rfl
@[simp] theorem stop_tickArmed (s : State) : (stop s).tickArmed = false := rfl
@[simp] theorem stop_nst (s : State) : (stop s).nst = s.nst := rfl
@[simp] theorem stop_anchor (s : State) : (stop s).anchor = s.anchor := rfl
@[simp] theorem stop_sysTicks (s : State) : (stop s).sysTicks = s.sysTicks := rfl
@[simp] theorem stop_tickBusy (s : State) : (stop s).tickBusy = s.tickBusy := rfl
@[simp] theorem stop_running (s : State) : (stop s).running = s.running := rfl
@[simp] theorem stop_estopped (s : State) : (stop s).estopped = s.estopped := rfl
@[simp] theorem stop_result (s : State) : (stop s).result = s.result := rfl
@[simp] theorem stop_slots (s : State) : (stop s).slots = s.slots := rfl
@[simp] theorem stop_head (s : State) : (stop s).head = s.head := rfl
@[simp] theorem stop_tail (s : State) : (stop s).tail = s.tail := rfl
@[simp] theorem stop_stepOut (s : State) : (stop s).stepOut = s.stepOut := rfl
@[simp] theorem stop_pulseTimer (s : State) : (stop s).pulseTimer = s.pulseTimer := rfl
@[simp] theorem stop_dirOut (s : State) : (stop s).dirOut = s.dirOut := rfl
@[simp] theorem stop_drvEn (s : State) : (stop s).drvEn = s.drvEn := rfl
@[simp] theorem stop_pos (s : State) : (stop s).pos = s.pos := rfl
@[simp] theorem stop_db (s : State) : (stop s).db = s.db := rfl
@[simp] theorem stop_draws (s : State) : (stop s).draws = s.draws := rfl
@[simp] theorem stop_pins (s : State) : (stop s).pins = s.pins := rfl
@[simp] theorem stop_readData (s : State) : (stop s).readData = s.readData := rfl
@[simp] theorem stop_program (s : State) : (stop s).program = s.program := rfl
@[simp] theorem stop_schedule (s : State) : (stop s).schedule = s.schedule := rfl

/-! ### wrapFire -/

@[simp] theorem wrapFire_cfg (s : State) : (wrapFire s).cfg = s.cfg := rfl
@[simp] theorem wrapFire_mv (s : State) : (wrapFire s).mv = s.mv := rfl
@[simp] theorem wrapFire_live (s : State) : (wrapFire s).live = s.live := rfl
@[simp] theorem wrapFire_stepNo (s : State) : (wrapFire s).stepNo = s.stepNo := rfl
@[simp] theorem wrapFire_bres (s : State) : (wrapFire s).bres = s.bres := rfl
@[simp] theorem wrapFire_cur (s : State) : (wrapFire s).cur = s.cur := rfl
@[simp] theorem wrapFire_phase (s : State) : (wrapFire s).phase = s.phase := rfl
@[simp] theorem wrapFire_rampN (s : State) : (wrapFire s).rampN = s.rampN := rfl
@[simp] theorem wrapFire_cCruise (s : State) : (wrapFire s).cCruise = s.cCruise := rfl
@[simp] theorem wrapFire_dsp (s : State) : (wrapFire s).dsp = s.dsp := rfl
@[simp] theorem wrapFire_cnt (s : State) : (wrapFire s).cnt = s.cnt := rfl
@[simp] theorem wrapFire_stepArmed (s : State) : (wrapFire s).stepArmed = s.stepArmed := rfl
@[simp] theorem wrapFire_ocrB (s : State) : (wrapFire s).ocrB = s.ocrB := rfl
@[simp] theorem wrapFire_tickArmed (s : State) : (wrapFire s).tickArmed = s.tickArmed := rfl
@[simp] theorem wrapFire_anchor (s : State) : (wrapFire s).anchor = s.anchor := rfl
@[simp] theorem wrapFire_sysTicks (s : State) : (wrapFire s).sysTicks = s.sysTicks := rfl
@[simp] theorem wrapFire_tickBusy (s : State) : (wrapFire s).tickBusy = s.tickBusy := rfl
@[simp] theorem wrapFire_running (s : State) : (wrapFire s).running = s.running := rfl
@[simp] theorem wrapFire_estopped (s : State) : (wrapFire s).estopped = s.estopped := rfl
@[simp] theorem wrapFire_result (s : State) : (wrapFire s).result = s.result := rfl
@[simp] theorem wrapFire_slots (s : State) : (wrapFire s).slots = s.slots := rfl
@[simp] theorem wrapFire_head (s : State) : (wrapFire s).head = s.head := rfl
@[simp] theorem wrapFire_tail (s : State) : (wrapFire s).tail = s.tail := rfl
@[simp] theorem wrapFire_stepOut (s : State) : (wrapFire s).stepOut = s.stepOut := rfl
@[simp] theorem wrapFire_pulseTimer (s : State) : (wrapFire s).pulseTimer = s.pulseTimer := rfl
@[simp] theorem wrapFire_dirOut (s : State) : (wrapFire s).dirOut = s.dirOut := rfl
@[simp] theorem wrapFire_drvEn (s : State) : (wrapFire s).drvEn = s.drvEn := rfl
@[simp] theorem wrapFire_pos (s : State) : (wrapFire s).pos = s.pos := rfl
@[simp] theorem wrapFire_db (s : State) : (wrapFire s).db = s.db := rfl
@[simp] theorem wrapFire_draws (s : State) : (wrapFire s).draws = s.draws := rfl
@[simp] theorem wrapFire_pins (s : State) : (wrapFire s).pins = s.pins := rfl
@[simp] theorem wrapFire_readData (s : State) : (wrapFire s).readData = s.readData := rfl
@[simp] theorem wrapFire_program (s : State) : (wrapFire s).program = s.program := rfl
@[simp] theorem wrapFire_schedule (s : State) : (wrapFire s).schedule = s.schedule := rfl

/-! ### cmpB -/

@[simp] theorem cmpB_cfg (s : State) : (cmpB s).cfg = s.cfg := rfl
@[simp] theorem cmpB_mv (s : State) : (cmpB s).mv = s.mv := rfl
@[simp] theorem cmpB_live (s : State) : (cmpB s).live = s.live := rfl
@[simp] theorem cmpB_stepNo (s : State) : (cmpB s).stepNo = s.stepNo := rfl
@[simp] theorem cmpB_bres (s : State) : (cmpB s).bres = s.bres := rfl
@[simp] theorem cmpB_cur (s : State) : (cmpB s).cur = s.cur := rfl
@[simp] theorem cmpB_phase (s : State) : (cmpB s).phase = s.phase := rfl
@[simp] theorem cmpB_rampN (s : State) : (cmpB s).rampN = s.rampN := rfl
@[simp] theorem cmpB_cCruise (s : State) : (cmpB s).cCruise = s.cCruise := rfl
@[simp] theorem cmpB_dsp (s : State) : (cmpB s).dsp = s.dsp := rfl
@[simp] theorem cmpB_cnt (s : State) : (cmpB s).cnt = s.cnt := rfl
@[simp] theorem cmpB_ocrA (s : State) : (cmpB s).ocrA = s.ocrA := rfl
@[simp] theorem cmpB_stepArmed (s : State) : (cmpB s).stepArmed = s.stepArmed := rfl
@[simp] theorem cmpB_ocrB (s : State) : (cmpB s).ocrB = (s.ocrB + s.cfg.tickTime) % s.cfg.range := rfl
@[simp] theorem cmpB_tickArmed (s : State) : (cmpB s).tickArmed = s.tickArmed := rfl
@[simp] theorem cmpB_nst (s : State) : (cmpB s).nst = s.nst := rfl
@[simp] theorem cmpB_anchor (s : State) : (cmpB s).anchor = s.anchor := rfl
@[simp] theorem cmpB_sysTicks (s : State) : (cmpB s).sysTicks = s.sysTicks + 1 := rfl
@[simp] theorem cmpB_running (s : State) : (cmpB s).running = s.running := rfl
@[simp] theorem cmpB_estopped (s : State) : (cmpB s).estopped = s.estopped := rfl
@[simp] theorem cmpB_result (s : State) : (cmpB s).result = s.result := rfl
@[simp] theorem cmpB_slots (s : State) : (cmpB s).slots = s.slots := rfl
@[simp] theorem cmpB_head (s : State) : (cmpB s).head = s.head := rfl
@[simp] theorem cmpB_tail (s : State) : (cmpB s).tail = s.tail := rfl
@[simp] theorem cmpB_stepOut (s : State) : (cmpB s).stepOut = s.stepOut := rfl
@[simp] theorem cmpB_pulseTimer (s : State) : (cmpB s).pulseTimer = s.pulseTimer := rfl
@[simp] theorem cmpB_dirOut (s : State) : (cmpB s).dirOut = s.dirOut := rfl
@[simp] theorem cmpB_drvEn (s : State) : (cmpB s).drvEn = s.drvEn := rfl
@[simp] theorem cmpB_pos (s : State) : (cmpB s).pos = s.pos := rfl
@[simp] theorem cmpB_db (s : State) : (cmpB s).db = s.db := rfl
@[simp] theorem cmpB_draws (s : State) : (cmpB s).draws = s.draws := rfl
@[simp] theorem cmpB_pins (s : State) : (cmpB s).pins = s.pins := rfl
@[simp] theorem cmpB_readData (s : State) : (cmpB s).readData = s.readData := rfl
@[simp] theorem cmpB_program (s : State) : (cmpB s).program = s.program := rfl
@[simp] theorem cmpB_schedule (s : State) : (cmpB s).schedule = s.schedule := rfl

/-! ### countTick -/

@[simp] theorem countTick_cfg (s : State) : (countTick s).cfg = s.cfg := rfl
@[simp] theorem countTick_mv (s : State) : (countTick s).mv = s.mv := rfl
@[simp] theorem countTick_live (s : State) : (countTick s).live = s.live := rfl
@[simp] theorem countTick_stepNo (s : State) : (countTick s).stepNo = s.stepNo := rfl
@[simp] theorem countTick_bres (s : State) : (countTick s).bres = s.bres := rfl
@[simp] theorem countTick_cur (s : State) : (countTick s).cur = s.cur := rfl
@[simp] theorem countTick_phase (s : State) : (countTick s).phase = s.phase := rfl
@[simp] theorem countTick_rampN (s : State) : (countTick s).rampN = s.rampN := rfl
@[simp] theorem countTick_cCruise (s : State) : (countTick s).cCruise = s.cCruise := rfl
@[simp] theorem countTick_dsp (s : State) : (countTick s).dsp = s.dsp := rfl
@[simp] theorem countTick_cnt (s : State) : (countTick s).cnt = (s.cnt + 1) % s.cfg.range := rfl
@[simp] theorem countTick_ocrA (s : State) : (countTick s).ocrA = s.ocrA := rfl
@[simp] theorem countTick_stepArmed (s : State) : (countTick s).stepArmed = s.stepArmed := rfl
@[simp] theorem countTick_ocrB (s : State) : (countTick s).ocrB = s.ocrB := rfl
@[simp] theorem countTick_tickArmed (s : State) : (countTick s).tickArmed = s.tickArmed := rfl
@[simp] theorem countTick_nst (s : State) : (countTick s).nst = s.nst := rfl
@[simp] theorem countTick_anchor (s : State) : (countTick s).anchor = s.anchor := rfl
@[simp] theorem countTick_sysTicks (s : State) : (countTick s).sysTicks = s.sysTicks := rfl
@[simp] theorem countTick_tickBusy (s : State) : (countTick s).tickBusy = s.tickBusy := rfl
@[simp] theorem countTick_running (s : State) : (countTick s).running = s.running := rfl
@[simp] theorem countTick_estopped (s : State) : (countTick s).estopped = s.estopped := rfl
@[simp] theorem countTick_result (s : State) : (countTick s).result = s.result := rfl
@[simp] theorem countTick_slots (s : State) : (countTick s).slots = s.slots := rfl
@[simp] theorem countTick_head (s : State) : (countTick s).head = s.head := rfl
@[simp] theorem countTick_tail (s : State) : (countTick s).tail = s.tail := rfl
@[simp] theorem countTick_stepOut (s : State) : (countTick s).stepOut = if s.pulseTimer = 1 then 0 else s.stepOut := rfl
@[simp] theorem countTick_pulseTimer (s : State) : (countTick s).pulseTimer = s.pulseTimer - 1 := rfl
@[simp] theorem countTick_dirOut (s : State) : (countTick s).dirOut = s.dirOut := rfl
@[simp] theorem countTick_drvEn (s : State) : (countTick s).drvEn = s.drvEn := rfl
@[simp] theorem countTick_pos (s : State) : (countTick s).pos = s.pos := rfl
@[simp] theorem countTick_db (s : State) : (countTick s).db = s.db := rfl
@[simp] theorem countTick_draws (s : State) : (countTick s).draws = s.draws := rfl
@[simp] theorem countTick_pins (s : State) : (countTick s).pins = s.pins := rfl
@[simp] theorem countTick_readData (s : State) : (countTick s).readData = s.readData := rfl
@[simp] theorem countTick_program (s : State) : (countTick s).program = s.program := rfl
@[simp] theorem countTick_schedule (s : State) : (countTick s).schedule = s.schedule := rfl

/-! ### stepPulses -/

@[simp] theorem stepPulses_cfg (m : Move) (s : State) : (stepPulses m s).cfg = s.cfg := rfl
@[simp] theorem stepPulses_mv (m : Move) (s : State) : (stepPulses m s).mv = s.mv := rfl
@[simp] theorem stepPulses_live (m : Move) (s : State) : (stepPulses m s).live = s.live := rfl
@[simp] theorem stepPulses_stepNo (m : Move) (s : State) : (stepPulses m s).stepNo = s.stepNo := rfl
@[simp] theorem stepPulses_cur (m : Move) (s : State) : (stepPulses m s).cur = s.cur := rfl
@[simp] theorem stepPulses_phase (m : Move) (s : State) : (stepPulses m s).phase = s.phase := rfl
@[simp] theorem stepPulses_rampN (m : Move) (s : State) : (stepPulses m s).rampN = s.rampN := rfl
@[simp] theorem stepPulses_cCruise (m : Move) (s : State) : (stepPulses m s).cCruise = s.cCruise := rfl
@[simp] theorem stepPulses_dsp (m : Move) (s : State) : (stepPulses m s).dsp = s.dsp := rfl
@[simp] theorem stepPulses_cnt (m : Move) (s : State) : (stepPulses m s).cnt = s.cnt := rfl
@[simp] theorem stepPulses_ocrA (m : Move) (s : State) : (stepPulses m s).ocrA = s.ocrA := rfl
@[simp] theorem stepPulses_stepArmed (m : Move) (s : State) : (stepPulses m s).stepArmed = s.stepArmed := rfl
@[simp] theorem stepPulses_ocrB (m : Move) (s : State) : (stepPulses m s).ocrB = s.ocrB := rfl
@[simp] theorem stepPulses_tickArmed (m : Move) (s : State) : (stepPulses m s).tickArmed = s.tickArmed := rfl
@[simp] theorem stepPulses_nst (m : Move) (s : State) : (stepPulses m s).nst = s.nst := rfl
@[simp] theorem stepPulses_anchor (m : Move) (s : State) : (stepPulses m s).anchor = s.anchor := rfl
@[simp] theorem stepPulses_sysTicks (m : Move) (s : State) : (stepPulses m s).sysTicks = s.sysTicks := rfl
@[simp] theorem stepPulses_tickBusy (m : Move) (s : State) : (stepPulses m s).tickBusy = s.tickBusy := rfl
@[simp] theorem stepPulses_running (m : Move) (s : State) : (stepPulses m s).running = s.running := rfl
@[simp] theorem stepPulses_estopped (m : Move) (s : State) : (stepPulses m s).estopped = s.estopped := rfl
@[simp] theorem stepPulses_result (m : Move) (s : State) : (stepPulses m s).result = s.result := rfl
@[simp] theorem stepPulses_slots (m : Move) (s : State) : (stepPulses m s).slots = s.slots := rfl
@[simp] theorem stepPulses_head (m : Move) (s : State) : (stepPulses m s).head = s.head := rfl
@[simp] theorem stepPulses_tail (m : Move) (s : State) : (stepPulses m s).tail = s.tail := rfl
@[simp] theorem stepPulses_pulseTimer (m : Move) (s : State) : (stepPulses m s).pulseTimer = s.cfg.stepPulseTicks := rfl
@[simp] theorem stepPulses_dirOut (m : Move) (s : State) : (stepPulses m s).dirOut = s.dirOut := rfl
@[simp] theorem stepPulses_drvEn (m : Move) (s : State) : (stepPulses m s).drvEn = s.drvEn := rfl
@[simp] theorem stepPulses_db (m : Move) (s : State) : (stepPulses m s).db = s.db := rfl
@[simp] theorem stepPulses_draws (m : Move) (s : State) : (stepPulses m s).draws = s.draws := rfl
@[simp] theorem stepPulses_pins (m : Move) (s : State) : (stepPulses m s).pins = s.pins := rfl
@[simp] theorem stepPulses_readData (m : Move) (s : State) : (stepPulses m s).readData = s.readData := rfl
@[simp] theorem stepPulses_program (m : Move) (s : State) : (stepPulses m s).program = s.program := rfl
@[simp] theorem stepPulses_schedule (m : Move) (s : State) : (stepPulses m s).schedule = s.schedule := rfl

end Sys2Proof.Machine
end

