-- ==== Sys2Proof/Laws/Frames.lean ====
section
/-! SUPPORT. Frames of the shared operations. For each, one lemma says once which fields it can write, whatever branch it
takes (10_state.md R43); the field lemmas are read off it. -/

namespace Sys2Proof.Machine

/-- Every call of SCHED in the block passes `check_short = 0`, so it always arms (40_timer_scheduler.md R104). -/
@[simp] theorem callSched_eq_arm (d : Nat) (s : State) : callSched d s = s.arm d := rfl

/-! ### firstInterval -/

theorem firstInterval_frame (m : Move) (s : State) :
    (firstInterval m s).2 = { s with
      phase := (firstInterval m s).2.phase, rampN := (firstInterval m s).2.rampN,
      cCruise := (firstInterval m s).2.cCruise } := by
  simp only [firstInterval]; (repeat' split) <;> rfl

@[simp] theorem firstInterval_cfg (m : Move) (s : State) : (firstInterval m s).2.cfg = s.cfg := by rw [firstInterval_frame]
@[simp] theorem firstInterval_mv (m : Move) (s : State) : (firstInterval m s).2.mv = s.mv := by rw [firstInterval_frame]
@[simp] theorem firstInterval_live (m : Move) (s : State) : (firstInterval m s).2.live = s.live := by rw [firstInterval_frame]
@[simp] theorem firstInterval_stepNo (m : Move) (s : State) : (firstInterval m s).2.stepNo = s.stepNo := by rw [firstInterval_frame]
@[simp] theorem firstInterval_bres (m : Move) (s : State) : (firstInterval m s).2.bres = s.bres := by rw [firstInterval_frame]
@[simp] theorem firstInterval_cur (m : Move) (s : State) : (firstInterval m s).2.cur = s.cur := by rw [firstInterval_frame]
@[simp] theorem firstInterval_dsp (m : Move) (s : State) : (firstInterval m s).2.dsp = s.dsp := by rw [firstInterval_frame]
@[simp] theorem firstInterval_cnt (m : Move) (s : State) : (firstInterval m s).2.cnt = s.cnt := by rw [firstInterval_frame]
@[simp] theorem firstInterval_ocrA (m : Move) (s : State) : (firstInterval m s).2.ocrA = s.ocrA := by rw [firstInterval_frame]
@[simp] theorem firstInterval_stepArmed (m : Move) (s : State) : (firstInterval m s).2.stepArmed = s.stepArmed := by rw [firstInterval_frame]
@[simp] theorem firstInterval_ocrB (m : Move) (s : State) : (firstInterval m s).2.ocrB = s.ocrB := by rw [firstInterval_frame]
@[simp] theorem firstInterval_tickArmed (m : Move) (s : State) : (firstInterval m s).2.tickArmed = s.tickArmed := by rw [firstInterval_frame]
@[simp] theorem firstInterval_nst (m : Move) (s : State) : (firstInterval m s).2.nst = s.nst := by rw [firstInterval_frame]
@[simp] theorem firstInterval_anchor (m : Move) (s : State) : (firstInterval m s).2.anchor = s.anchor := by rw [firstInterval_frame]
@[simp] theorem firstInterval_sysTicks (m : Move) (s : State) : (firstInterval m s).2.sysTicks = s.sysTicks := by rw [firstInterval_frame]
@[simp] theorem firstInterval_tickBusy (m : Move) (s : State) : (firstInterval m s).2.tickBusy = s.tickBusy := by rw [firstInterval_frame]
@[simp] theorem firstInterval_running (m : Move) (s : State) : (firstInterval m s).2.running = s.running := by rw [firstInterval_frame]
@[simp] theorem firstInterval_estopped (m : Move) (s : State) : (firstInterval m s).2.estopped = s.estopped := by rw [firstInterval_frame]
@[simp] theorem firstInterval_result (m : Move) (s : State) : (firstInterval m s).2.result = s.result := by rw [firstInterval_frame]
@[simp] theorem firstInterval_slots (m : Move) (s : State) : (firstInterval m s).2.slots = s.slots := by rw [firstInterval_frame]
@[simp] theorem firstInterval_head (m : Move) (s : State) : (firstInterval m s).2.head = s.head := by rw [firstInterval_frame]
@[simp] theorem firstInterval_tail (m : Move) (s : State) : (firstInterval m s).2.tail = s.tail := by rw [firstInterval_frame]
@[simp] theorem firstInterval_stepOut (m : Move) (s : State) : (firstInterval m s).2.stepOut = s.stepOut := by rw [firstInterval_frame]
@[simp] theorem firstInterval_pulseTimer (m : Move) (s : State) : (firstInterval m s).2.pulseTimer = s.pulseTimer := by rw [firstInterval_frame]
@[simp] theorem firstInterval_dirOut (m : Move) (s : State) : (firstInterval m s).2.dirOut = s.dirOut := by rw [firstInterval_frame]
@[simp] theorem firstInterval_drvEn (m : Move) (s : State) : (firstInterval m s).2.drvEn = s.drvEn := by rw [firstInterval_frame]
@[simp] theorem firstInterval_pos (m : Move) (s : State) : (firstInterval m s).2.pos = s.pos := by rw [firstInterval_frame]
@[simp] theorem firstInterval_db (m : Move) (s : State) : (firstInterval m s).2.db = s.db := by rw [firstInterval_frame]
@[simp] theorem firstInterval_draws (m : Move) (s : State) : (firstInterval m s).2.draws = s.draws := by rw [firstInterval_frame]
@[simp] theorem firstInterval_pins (m : Move) (s : State) : (firstInterval m s).2.pins = s.pins := by rw [firstInterval_frame]
@[simp] theorem firstInterval_readData (m : Move) (s : State) : (firstInterval m s).2.readData = s.readData := by rw [firstInterval_frame]
@[simp] theorem firstInterval_program (m : Move) (s : State) : (firstInterval m s).2.program = s.program := by rw [firstInterval_frame]
@[simp] theorem firstInterval_schedule (m : Move) (s : State) : (firstInterval m s).2.schedule = s.schedule := by rw [firstInterval_frame]

/-! ### nextInterval -/

theorem nextInterval_frame (s : State) :
    (nextInterval s).2.2 = { s with
      phase := (nextInterval s).2.2.phase, rampN := (nextInterval s).2.2.rampN } := by
  simp only [nextInterval]; (repeat' split) <;> rfl

@[simp] theorem nextInterval_cfg (s : State) : (nextInterval s).2.2.cfg = s.cfg := by rw [nextInterval_frame]
@[simp] theorem nextInterval_mv (s : State) : (nextInterval s).2.2.mv = s.mv := by rw [nextInterval_frame]
@[simp] theorem nextInterval_live (s : State) : (nextInterval s).2.2.live = s.live := by rw [nextInterval_frame]
@[simp] theorem nextInterval_stepNo (s : State) : (nextInterval s).2.2.stepNo = s.stepNo := by rw [nextInterval_frame]
@[simp] theorem nextInterval_bres (s : State) : (nextInterval s).2.2.bres = s.bres := by rw [nextInterval_frame]
@[simp] theorem nextInterval_cur (s : State) : (nextInterval s).2.2.cur = s.cur := by rw [nextInterval_frame]
@[simp] theorem nextInterval_cCruise (s : State) : (nextInterval s).2.2.cCruise = s.cCruise := by rw [nextInterval_frame]
@[simp] theorem nextInterval_dsp (s : State) : (nextInterval s).2.2.dsp = s.dsp := by rw [nextInterval_frame]
@[simp] theorem nextInterval_cnt (s : State) : (nextInterval s).2.2.cnt = s.cnt := by rw [nextInterval_frame]
@[simp] theorem nextInterval_ocrA (s : State) : (nextInterval s).2.2.ocrA = s.ocrA := by rw [nextInterval_frame]
@[simp] theorem nextInterval_stepArmed (s : State) : (nextInterval s).2.2.stepArmed = s.stepArmed := by rw [nextInterval_frame]
@[simp] theorem nextInterval_ocrB (s : State) : (nextInterval s).2.2.ocrB = s.ocrB := by rw [nextInterval_frame]
@[simp] theorem nextInterval_tickArmed (s : State) : (nextInterval s).2.2.tickArmed = s.tickArmed := by rw [nextInterval_frame]
@[simp] theorem nextInterval_nst (s : State) : (nextInterval s).2.2.nst = s.nst := by rw [nextInterval_frame]
@[simp] theorem nextInterval_anchor (s : State) : (nextInterval s).2.2.anchor = s.anchor := by rw [nextInterval_frame]
@[simp] theorem nextInterval_sysTicks (s : State) : (nextInterval s).2.2.sysTicks = s.sysTicks := by rw [nextInterval_frame]
@[simp] theorem nextInterval_tickBusy (s : State) : (nextInterval s).2.2.tickBusy = s.tickBusy := by rw [nextInterval_frame]
@[simp] theorem nextInterval_running (s : State) : (nextInterval s).2.2.running = s.running := by rw [nextInterval_frame]
@[simp] theorem nextInterval_estopped (s : State) : (nextInterval s).2.2.estopped = s.estopped := by rw [nextInterval_frame]
@[simp] theorem nextInterval_result (s : State) : (nextInterval s).2.2.result = s.result := by rw [nextInterval_frame]
@[simp] theorem nextInterval_slots (s : State) : (nextInterval s).2.2.slots = s.slots := by rw [nextInterval_frame]
@[simp] theorem nextInterval_head (s : State) : (nextInterval s).2.2.head = s.head := by rw [nextInterval_frame]
@[simp] theorem nextInterval_tail (s : State) : (nextInterval s).2.2.tail = s.tail := by rw [nextInterval_frame]
@[simp] theorem nextInterval_stepOut (s : State) : (nextInterval s).2.2.stepOut = s.stepOut := by rw [nextInterval_frame]
@[simp] theorem nextInterval_pulseTimer (s : State) : (nextInterval s).2.2.pulseTimer = s.pulseTimer := by rw [nextInterval_frame]
@[simp] theorem nextInterval_dirOut (s : State) : (nextInterval s).2.2.dirOut = s.dirOut := by rw [nextInterval_frame]
@[simp] theorem nextInterval_drvEn (s : State) : (nextInterval s).2.2.drvEn = s.drvEn := by rw [nextInterval_frame]
@[simp] theorem nextInterval_pos (s : State) : (nextInterval s).2.2.pos = s.pos := by rw [nextInterval_frame]
@[simp] theorem nextInterval_db (s : State) : (nextInterval s).2.2.db = s.db := by rw [nextInterval_frame]
@[simp] theorem nextInterval_draws (s : State) : (nextInterval s).2.2.draws = s.draws := by rw [nextInterval_frame]
@[simp] theorem nextInterval_pins (s : State) : (nextInterval s).2.2.pins = s.pins := by rw [nextInterval_frame]
@[simp] theorem nextInterval_readData (s : State) : (nextInterval s).2.2.readData = s.readData := by rw [nextInterval_frame]
@[simp] theorem nextInterval_program (s : State) : (nextInterval s).2.2.program = s.program := by rw [nextInterval_frame]
@[simp] theorem nextInterval_schedule (s : State) : (nextInterval s).2.2.schedule = s.schedule := by rw [nextInterval_frame]

/-! ### initWatched -/

theorem initWatched_frame (m : Move) (s : State) :
    (initWatched m s) = { s with
      db := (initWatched m s).db, draws := (initWatched m s).draws } := rfl

@[simp] theorem initWatched_cfg (m : Move) (s : State) : (initWatched m s).cfg = s.cfg := by rw [initWatched_frame]
@[simp] theorem initWatched_mv (m : Move) (s : State) : (initWatched m s).mv = s.mv := by rw [initWatched_frame]
@[simp] theorem initWatched_live (m : Move) (s : State) : (initWatched m s).live = s.live := by rw [initWatched_frame]
@[simp] theorem initWatched_stepNo (m : Move) (s : State) : (initWatched m s).stepNo = s.stepNo := by rw [initWatched_frame]
@[simp] theorem initWatched_bres (m : Move) (s : State) : (initWatched m s).bres = s.bres := by rw [initWatched_frame]
@[simp] theorem initWatched_cur (m : Move) (s : State) : (initWatched m s).cur = s.cur := by rw [initWatched_frame]
@[simp] theorem initWatched_phase (m : Move) (s : State) : (initWatched m s).phase = s.phase := by rw [initWatched_frame]
@[simp] theorem initWatched_rampN (m : Move) (s : State) : (initWatched m s).rampN = s.rampN := by rw [initWatched_frame]
@[simp] theorem initWatched_cCruise (m : Move) (s : State) : (initWatched m s).cCruise = s.cCruise := by rw [initWatched_frame]
@[simp] theorem initWatched_dsp (m : Move) (s : State) : (initWatched m s).dsp = s.dsp := by rw [initWatched_frame]
@[simp] theorem initWatched_cnt (m : Move) (s : State) : (initWatched m s).cnt = s.cnt := by rw [initWatched_frame]
@[simp] theorem initWatched_ocrA (m : Move) (s : State) : (initWatched m s).ocrA = s.ocrA := by rw [initWatched_frame]
@[simp] theorem initWatched_stepArmed (m : Move) (s : State) : (initWatched m s).stepArmed = s.stepArmed := by rw [initWatched_frame]
@[simp] theorem initWatched_ocrB (m : Move) (s : State) : (initWatched m s).ocrB = s.ocrB := by rw [initWatched_frame]
@[simp] theorem initWatched_tickArmed (m : Move) (s : State) : (initWatched m s).tickArmed = s.tickArmed := by rw [initWatched_frame]
@[simp] theorem initWatched_nst (m : Move) (s : State) : (initWatched m s).nst = s.nst := by rw [initWatched_frame]
@[simp] theorem initWatched_anchor (m : Move) (s : State) : (initWatched m s).anchor = s.anchor := by rw [initWatched_frame]
@[simp] theorem initWatched_sysTicks (m : Move) (s : State) : (initWatched m s).sysTicks = s.sysTicks := by rw [initWatched_frame]
@[simp] theorem initWatched_tickBusy (m : Move) (s : State) : (initWatched m s).tickBusy = s.tickBusy := by rw [initWatched_frame]
@[simp] theorem initWatched_running (m : Move) (s : State) : (initWatched m s).running = s.running := by rw [initWatched_frame]
@[simp] theorem initWatched_estopped (m : Move) (s : State) : (initWatched m s).estopped = s.estopped := by rw [initWatched_frame]
@[simp] theorem initWatched_result (m : Move) (s : State) : (initWatched m s).result = s.result := by rw [initWatched_frame]
@[simp] theorem initWatched_slots (m : Move) (s : State) : (initWatched m s).slots = s.slots := by rw [initWatched_frame]
@[simp] theorem initWatched_head (m : Move) (s : State) : (initWatched m s).head = s.head := by rw [initWatched_frame]
@[simp] theorem initWatched_tail (m : Move) (s : State) : (initWatched m s).tail = s.tail := by rw [initWatched_frame]
@[simp] theorem initWatched_stepOut (m : Move) (s : State) : (initWatched m s).stepOut = s.stepOut := by rw [initWatched_frame]
@[simp] theorem initWatched_pulseTimer (m : Move) (s : State) : (initWatched m s).pulseTimer = s.pulseTimer := by rw [initWatched_frame]
@[simp] theorem initWatched_dirOut (m : Move) (s : State) : (initWatched m s).dirOut = s.dirOut := by rw [initWatched_frame]
@[simp] theorem initWatched_drvEn (m : Move) (s : State) : (initWatched m s).drvEn = s.drvEn := by rw [initWatched_frame]
@[simp] theorem initWatched_pos (m : Move) (s : State) : (initWatched m s).pos = s.pos := by rw [initWatched_frame]
@[simp] theorem initWatched_pins (m : Move) (s : State) : (initWatched m s).pins = s.pins := by rw [initWatched_frame]
@[simp] theorem initWatched_readData (m : Move) (s : State) : (initWatched m s).readData = s.readData := by rw [initWatched_frame]
@[simp] theorem initWatched_program (m : Move) (s : State) : (initWatched m s).program = s.program := by rw [initWatched_frame]
@[simp] theorem initWatched_schedule (m : Move) (s : State) : (initWatched m s).schedule = s.schedule := by rw [initWatched_frame]

/-! ### sampleWatched -/

theorem sampleWatched_frame (m : Move) (s : State) :
    (sampleWatched m s).2 = { s with
      db := (sampleWatched m s).2.db, draws := (sampleWatched m s).2.draws } := rfl

@[simp] theorem sampleWatched_cfg (m : Move) (s : State) : (sampleWatched m s).2.cfg = s.cfg := by rw [sampleWatched_frame]
@[simp] theorem sampleWatched_mv (m : Move) (s : State) : (sampleWatched m s).2.mv = s.mv := by rw [sampleWatched_frame]
@[simp] theorem sampleWatched_live (m : Move) (s : State) : (sampleWatched m s).2.live = s.live := by rw [sampleWatched_frame]
@[simp] theorem sampleWatched_stepNo (m : Move) (s : State) : (sampleWatched m s).2.stepNo = s.stepNo := by rw [sampleWatched_frame]
@[simp] theorem sampleWatched_bres (m : Move) (s : State) : (sampleWatched m s).2.bres = s.bres := by rw [sampleWatched_frame]
@[simp] theorem sampleWatched_cur (m : Move) (s : State) : (sampleWatched m s).2.cur = s.cur := by rw [sampleWatched_frame]
@[simp] theorem sampleWatched_phase (m : Move) (s : State) : (sampleWatched m s).2.phase = s.phase := by rw [sampleWatched_frame]
@[simp] theorem sampleWatched_rampN (m : Move) (s : State) : (sampleWatched m s).2.rampN = s.rampN := by rw [sampleWatched_frame]
@[simp] theorem sampleWatched_cCruise (m : Move) (s : State) : (sampleWatched m s).2.cCruise = s.cCruise := by rw [sampleWatched_frame]
@[simp] theorem sampleWatched_dsp (m : Move) (s : State) : (sampleWatched m s).2.dsp = s.dsp := by rw [sampleWatched_frame]
@[simp] theorem sampleWatched_cnt (m : Move) (s : State) : (sampleWatched m s).2.cnt = s.cnt := by rw [sampleWatched_frame]
@[simp] theorem sampleWatched_ocrA (m : Move) (s : State) : (sampleWatched m s).2.ocrA = s.ocrA := by rw [sampleWatched_frame]
@[simp] theorem sampleWatched_stepArmed (m : Move) (s : State) : (sampleWatched m s).2.stepArmed = s.stepArmed := by rw [sampleWatched_frame]
@[simp] theorem sampleWatched_ocrB (m : Move) (s : State) : (sampleWatched m s).2.ocrB = s.ocrB := by rw [sampleWatched_frame]
@[simp] theorem sampleWatched_tickArmed (m : Move) (s : State) : (sampleWatched m s).2.tickArmed = s.tickArmed := by rw [sampleWatched_frame]
@[simp] theorem sampleWatched_nst (m : Move) (s : State) : (sampleWatched m s).2.nst = s.nst := by rw [sampleWatched_frame]
@[simp] theorem sampleWatched_anchor (m : Move) (s : State) : (sampleWatched m s).2.anchor = s.anchor := by rw [sampleWatched_frame]
@[simp] theorem sampleWatched_sysTicks (m : Move) (s : State) : (sampleWatched m s).2.sysTicks = s.sysTicks := by rw [sampleWatched_frame]
@[simp] theorem sampleWatched_tickBusy (m : Move) (s : State) : (sampleWatched m s).2.tickBusy = s.tickBusy := by rw [sampleWatched_frame]
@[simp] theorem sampleWatched_running (m : Move) (s : State) : (sampleWatched m s).2.running = s.running := by rw [sampleWatched_frame]
@[simp] theorem sampleWatched_estopped (m : Move) (s : State) : (sampleWatched m s).2.estopped = s.estopped := by rw [sampleWatched_frame]
@[simp] theorem sampleWatched_result (m : Move) (s : State) : (sampleWatched m s).2.result = s.result := by rw [sampleWatched_frame]
@[simp] theorem sampleWatched_slots (m : Move) (s : State) : (sampleWatched m s).2.slots = s.slots := by rw [sampleWatched_frame]
@[simp] theorem sampleWatched_head (m : Move) (s : State) : (sampleWatched m s).2.head = s.head := by rw [sampleWatched_frame]
@[simp] theorem sampleWatched_tail (m : Move) (s : State) : (sampleWatched m s).2.tail = s.tail := by rw [sampleWatched_frame]
@[simp] theorem sampleWatched_stepOut (m : Move) (s : State) : (sampleWatched m s).2.stepOut = s.stepOut := by rw [sampleWatched_frame]
@[simp] theorem sampleWatched_pulseTimer (m : Move) (s : State) : (sampleWatched m s).2.pulseTimer = s.pulseTimer := by rw [sampleWatched_frame]
@[simp] theorem sampleWatched_dirOut (m : Move) (s : State) : (sampleWatched m s).2.dirOut = s.dirOut := by rw [sampleWatched_frame]
@[simp] theorem sampleWatched_drvEn (m : Move) (s : State) : (sampleWatched m s).2.drvEn = s.drvEn := by rw [sampleWatched_frame]
@[simp] theorem sampleWatched_pos (m : Move) (s : State) : (sampleWatched m s).2.pos = s.pos := by rw [sampleWatched_frame]
@[simp] theorem sampleWatched_pins (m : Move) (s : State) : (sampleWatched m s).2.pins = s.pins := by rw [sampleWatched_frame]
@[simp] theorem sampleWatched_readData (m : Move) (s : State) : (sampleWatched m s).2.readData = s.readData := by rw [sampleWatched_frame]
@[simp] theorem sampleWatched_program (m : Move) (s : State) : (sampleWatched m s).2.program = s.program := by rw [sampleWatched_frame]
@[simp] theorem sampleWatched_schedule (m : Move) (s : State) : (sampleWatched m s).2.schedule = s.schedule := by rw [sampleWatched_frame]

/-! ### stepEndstops -/

theorem stepEndstops_frame (m : Move) (s : State) :
    (stepEndstops m s) = { s with
      stepNo := (stepEndstops m s).stepNo, db := (stepEndstops m s).db, draws := (stepEndstops m s).draws } := rfl

@[simp] theorem stepEndstops_cfg (m : Move) (s : State) : (stepEndstops m s).cfg = s.cfg := by rw [stepEndstops_frame]
@[simp] theorem stepEndstops_mv (m : Move) (s : State) : (stepEndstops m s).mv = s.mv := by rw [stepEndstops_frame]
@[simp] theorem stepEndstops_live (m : Move) (s : State) : (stepEndstops m s).live = s.live := by rw [stepEndstops_frame]
@[simp] theorem stepEndstops_bres (m : Move) (s : State) : (stepEndstops m s).bres = s.bres := by rw [stepEndstops_frame]
@[simp] theorem stepEndstops_cur (m : Move) (s : State) : (stepEndstops m s).cur = s.cur := by rw [stepEndstops_frame]
@[simp] theorem stepEndstops_phase (m : Move) (s : State) : (stepEndstops m s).phase = s.phase := by rw [stepEndstops_frame]
@[simp] theorem stepEndstops_rampN (m : Move) (s : State) : (stepEndstops m s).rampN = s.rampN := by rw [stepEndstops_frame]
@[simp] theorem stepEndstops_cCruise (m : Move) (s : State) : (stepEndstops m s).cCruise = s.cCruise := by rw [stepEndstops_frame]
@[simp] theorem stepEndstops_dsp (m : Move) (s : State) : (stepEndstops m s).dsp = s.dsp := by rw [stepEndstops_frame]
@[simp] theorem stepEndstops_cnt (m : Move) (s : State) : (stepEndstops m s).cnt = s.cnt := by rw [stepEndstops_frame]
@[simp] theorem stepEndstops_ocrA (m : Move) (s : State) : (stepEndstops m s).ocrA = s.ocrA := by rw [stepEndstops_frame]
@[simp] theorem stepEndstops_stepArmed (m : Move) (s : State) : (stepEndstops m s).stepArmed = s.stepArmed := by rw [stepEndstops_frame]
@[simp] theorem stepEndstops_ocrB (m : Move) (s : State) : (stepEndstops m s).ocrB = s.ocrB := by rw [stepEndstops_frame]
@[simp] theorem stepEndstops_tickArmed (m : Move) (s : State) : (stepEndstops m s).tickArmed = s.tickArmed := by rw [stepEndstops_frame]
@[simp] theorem stepEndstops_nst (m : Move) (s : State) : (stepEndstops m s).nst = s.nst := by rw [stepEndstops_frame]
@[simp] theorem stepEndstops_anchor (m : Move) (s : State) : (stepEndstops m s).anchor = s.anchor := by rw [stepEndstops_frame]
@[simp] theorem stepEndstops_sysTicks (m : Move) (s : State) : (stepEndstops m s).sysTicks = s.sysTicks := by rw [stepEndstops_frame]
@[simp] theorem stepEndstops_tickBusy (m : Move) (s : State) : (stepEndstops m s).tickBusy = s.tickBusy := by rw [stepEndstops_frame]
@[simp] theorem stepEndstops_running (m : Move) (s : State) : (stepEndstops m s).running = s.running := by rw [stepEndstops_frame]
@[simp] theorem stepEndstops_estopped (m : Move) (s : State) : (stepEndstops m s).estopped = s.estopped := by rw [stepEndstops_frame]
@[simp] theorem stepEndstops_result (m : Move) (s : State) : (stepEndstops m s).result = s.result := by rw [stepEndstops_frame]
@[simp] theorem stepEndstops_slots (m : Move) (s : State) : (stepEndstops m s).slots = s.slots := by rw [stepEndstops_frame]
@[simp] theorem stepEndstops_head (m : Move) (s : State) : (stepEndstops m s).head = s.head := by rw [stepEndstops_frame]
@[simp] theorem stepEndstops_tail (m : Move) (s : State) : (stepEndstops m s).tail = s.tail := by rw [stepEndstops_frame]
@[simp] theorem stepEndstops_stepOut (m : Move) (s : State) : (stepEndstops m s).stepOut = s.stepOut := by rw [stepEndstops_frame]
@[simp] theorem stepEndstops_pulseTimer (m : Move) (s : State) : (stepEndstops m s).pulseTimer = s.pulseTimer := by rw [stepEndstops_frame]
@[simp] theorem stepEndstops_dirOut (m : Move) (s : State) : (stepEndstops m s).dirOut = s.dirOut := by rw [stepEndstops_frame]
@[simp] theorem stepEndstops_drvEn (m : Move) (s : State) : (stepEndstops m s).drvEn = s.drvEn := by rw [stepEndstops_frame]
@[simp] theorem stepEndstops_pos (m : Move) (s : State) : (stepEndstops m s).pos = s.pos := by rw [stepEndstops_frame]
@[simp] theorem stepEndstops_pins (m : Move) (s : State) : (stepEndstops m s).pins = s.pins := by rw [stepEndstops_frame]
@[simp] theorem stepEndstops_readData (m : Move) (s : State) : (stepEndstops m s).readData = s.readData := by rw [stepEndstops_frame]
@[simp] theorem stepEndstops_program (m : Move) (s : State) : (stepEndstops m s).program = s.program := by rw [stepEndstops_frame]
@[simp] theorem stepEndstops_schedule (m : Move) (s : State) : (stepEndstops m s).schedule = s.schedule := by rw [stepEndstops_frame]

/-! ### loadDwell -/

theorem loadDwell_frame (m : Move) (s : State) :
    (loadDwell m s) = { s with
      cur := (loadDwell m s).cur, phase := (loadDwell m s).phase, rampN := (loadDwell m s).rampN,
      ocrA := (loadDwell m s).ocrA, stepArmed := (loadDwell m s).stepArmed, nst := (loadDwell m s).nst } := rfl

@[simp] theorem loadDwell_cfg (m : Move) (s : State) : (loadDwell m s).cfg = s.cfg := by rw [loadDwell_frame]
@[simp] theorem loadDwell_mv (m : Move) (s : State) : (loadDwell m s).mv = s.mv := by rw [loadDwell_frame]
@[simp] theorem loadDwell_live (m : Move) (s : State) : (loadDwell m s).live = s.live := by rw [loadDwell_frame]
@[simp] theorem loadDwell_stepNo (m : Move) (s : State) : (loadDwell m s).stepNo = s.stepNo := by rw [loadDwell_frame]
@[simp] theorem loadDwell_bres (m : Move) (s : State) : (loadDwell m s).bres = s.bres := by rw [loadDwell_frame]
@[simp] theorem loadDwell_cCruise (m : Move) (s : State) : (loadDwell m s).cCruise = s.cCruise := by rw [loadDwell_frame]
@[simp] theorem loadDwell_dsp (m : Move) (s : State) : (loadDwell m s).dsp = s.dsp := by rw [loadDwell_frame]
@[simp] theorem loadDwell_cnt (m : Move) (s : State) : (loadDwell m s).cnt = s.cnt := by rw [loadDwell_frame]
@[simp] theorem loadDwell_ocrB (m : Move) (s : State) : (loadDwell m s).ocrB = s.ocrB := by rw [loadDwell_frame]
@[simp] theorem loadDwell_tickArmed (m : Move) (s : State) : (loadDwell m s).tickArmed = s.tickArmed := by rw [loadDwell_frame]
@[simp] theorem loadDwell_anchor (m : Move) (s : State) : (loadDwell m s).anchor = s.anchor := by rw [loadDwell_frame]
@[simp] theorem loadDwell_sysTicks (m : Move) (s : State) : (loadDwell m s).sysTicks = s.sysTicks := by rw [loadDwell_frame]
@[simp] theorem loadDwell_tickBusy (m : Move) (s : State) : (loadDwell m s).tickBusy = s.tickBusy := by rw [loadDwell_frame]
@[simp] theorem loadDwell_running (m : Move) (s : State) : (loadDwell m s).running = s.running := by rw [loadDwell_frame]
@[simp] theorem loadDwell_estopped (m : Move) (s : State) : (loadDwell m s).estopped = s.estopped := by rw [loadDwell_frame]
@[simp] theorem loadDwell_result (m : Move) (s : State) : (loadDwell m s).result = s.result := by rw [loadDwell_frame]
@[simp] theorem loadDwell_slots (m : Move) (s : State) : (loadDwell m s).slots = s.slots := by rw [loadDwell_frame]
@[simp] theorem loadDwell_head (m : Move) (s : State) : (loadDwell m s).head = s.head := by rw [loadDwell_frame]
@[simp] theorem loadDwell_tail (m : Move) (s : State) : (loadDwell m s).tail = s.tail := by rw [loadDwell_frame]
@[simp] theorem loadDwell_stepOut (m : Move) (s : State) : (loadDwell m s).stepOut = s.stepOut := by rw [loadDwell_frame]
@[simp] theorem loadDwell_pulseTimer (m : Move) (s : State) : (loadDwell m s).pulseTimer = s.pulseTimer := by rw [loadDwell_frame]
@[simp] theorem loadDwell_dirOut (m : Move) (s : State) : (loadDwell m s).dirOut = s.dirOut := by rw [loadDwell_frame]
@[simp] theorem loadDwell_drvEn (m : Move) (s : State) : (loadDwell m s).drvEn = s.drvEn := by rw [loadDwell_frame]
@[simp] theorem loadDwell_pos (m : Move) (s : State) : (loadDwell m s).pos = s.pos := by rw [loadDwell_frame]
@[simp] theorem loadDwell_db (m : Move) (s : State) : (loadDwell m s).db = s.db := by rw [loadDwell_frame]
@[simp] theorem loadDwell_draws (m : Move) (s : State) : (loadDwell m s).draws = s.draws := by rw [loadDwell_frame]
@[simp] theorem loadDwell_pins (m : Move) (s : State) : (loadDwell m s).pins = s.pins := by rw [loadDwell_frame]
@[simp] theorem loadDwell_readData (m : Move) (s : State) : (loadDwell m s).readData = s.readData := by rw [loadDwell_frame]
@[simp] theorem loadDwell_program (m : Move) (s : State) : (loadDwell m s).program = s.program := by rw [loadDwell_frame]
@[simp] theorem loadDwell_schedule (m : Move) (s : State) : (loadDwell m s).schedule = s.schedule := by rw [loadDwell_frame]

/-! ### loadSteps -/

theorem loadSteps_frame (m : Move) (s : State) :
    (loadSteps m s) = { s with
      cur := (loadSteps m s).cur, phase := (loadSteps m s).phase, rampN := (loadSteps m s).rampN,
      cCruise := (loadSteps m s).cCruise, dsp := (loadSteps m s).dsp, ocrA := (loadSteps m s).ocrA,
      stepArmed := (loadSteps m s).stepArmed, nst := (loadSteps m s).nst, dirOut := (loadSteps m s).dirOut,
      db := (loadSteps m s).db, draws := (loadSteps m s).draws } := by
  simp only [loadSteps, callSched_eq_arm, State.arm]
  rw [firstInterval_frame, initWatched_frame]
  split <;> rfl

@[simp] theorem loadSteps_cfg (m : Move) (s : State) : (loadSteps m s).cfg = s.cfg := by rw [loadSteps_frame]
@[simp] theorem loadSteps_mv (m : Move) (s : State) : (loadSteps m s).mv = s.mv := by rw [loadSteps_frame]
@[simp] theorem loadSteps_live (m : Move) (s : State) : (loadSteps m s).live = s.live := by rw [loadSteps_frame]
@[simp] theorem loadSteps_stepNo (m : Move) (s : State) : (loadSteps m s).stepNo = s.stepNo := by rw [loadSteps_frame]
@[simp] theorem loadSteps_bres (m : Move) (s : State) : (loadSteps m s).bres = s.bres := by rw [loadSteps_frame]
@[simp] theorem loadSteps_cnt (m : Move) (s : State) : (loadSteps m s).cnt = s.cnt := by rw [loadSteps_frame]
@[simp] theorem loadSteps_ocrB (m : Move) (s : State) : (loadSteps m s).ocrB = s.ocrB := by rw [loadSteps_frame]
@[simp] theorem loadSteps_tickArmed (m : Move) (s : State) : (loadSteps m s).tickArmed = s.tickArmed := by rw [loadSteps_frame]
@[simp] theorem loadSteps_anchor (m : Move) (s : State) : (loadSteps m s).anchor = s.anchor := by rw [loadSteps_frame]
@[simp] theorem loadSteps_sysTicks (m : Move) (s : State) : (loadSteps m s).sysTicks = s.sysTicks := by rw [loadSteps_frame]
@[simp] theorem loadSteps_tickBusy (m : Move) (s : State) : (loadSteps m s).tickBusy = s.tickBusy := by rw [loadSteps_frame]
@[simp] theorem loadSteps_running (m : Move) (s : State) : (loadSteps m s).running = s.running := by rw [loadSteps_frame]
@[simp] theorem loadSteps_estopped (m : Move) (s : State) : (loadSteps m s).estopped = s.estopped := by rw [loadSteps_frame]
@[simp] theorem loadSteps_result (m : Move) (s : State) : (loadSteps m s).result = s.result := by rw [loadSteps_frame]
@[simp] theorem loadSteps_slots (m : Move) (s : State) : (loadSteps m s).slots = s.slots := by rw [loadSteps_frame]
@[simp] theorem loadSteps_head (m : Move) (s : State) : (loadSteps m s).head = s.head := by rw [loadSteps_frame]
@[simp] theorem loadSteps_tail (m : Move) (s : State) : (loadSteps m s).tail = s.tail := by rw [loadSteps_frame]
@[simp] theorem loadSteps_stepOut (m : Move) (s : State) : (loadSteps m s).stepOut = s.stepOut := by rw [loadSteps_frame]
@[simp] theorem loadSteps_pulseTimer (m : Move) (s : State) : (loadSteps m s).pulseTimer = s.pulseTimer := by rw [loadSteps_frame]
@[simp] theorem loadSteps_drvEn (m : Move) (s : State) : (loadSteps m s).drvEn = s.drvEn := by rw [loadSteps_frame]
@[simp] theorem loadSteps_pos (m : Move) (s : State) : (loadSteps m s).pos = s.pos := by rw [loadSteps_frame]
@[simp] theorem loadSteps_pins (m : Move) (s : State) : (loadSteps m s).pins = s.pins := by rw [loadSteps_frame]
@[simp] theorem loadSteps_readData (m : Move) (s : State) : (loadSteps m s).readData = s.readData := by rw [loadSteps_frame]
@[simp] theorem loadSteps_program (m : Move) (s : State) : (loadSteps m s).program = s.program := by rw [loadSteps_frame]
@[simp] theorem loadSteps_schedule (m : Move) (s : State) : (loadSteps m s).schedule = s.schedule := by rw [loadSteps_frame]

/-! ### load -/

theorem load_frame (s : State) :
    (load s) = { s with
      live := (load s).live, stepNo := (load s).stepNo, bres := (load s).bres, cur := (load s).cur,
      phase := (load s).phase, rampN := (load s).rampN, cCruise := (load s).cCruise, dsp := (load s).dsp,
      ocrA := (load s).ocrA, stepArmed := (load s).stepArmed, nst := (load s).nst, dirOut := (load s).dirOut,
      db := (load s).db, draws := (load s).draws } := by
  simp only [load]
  split
  · rw [loadDwell_frame]
  · rw [loadSteps_frame]

@[simp] theorem load_cfg (s : State) : (load s).cfg = s.cfg := by rw [load_frame]
@[simp] theorem load_mv (s : State) : (load s).mv = s.mv := by rw [load_frame]
@[simp] theorem load_cnt (s : State) : (load s).cnt = s.cnt := by rw [load_frame]
@[simp] theorem load_ocrB (s : State) : (load s).ocrB = s.ocrB := by rw [load_frame]
@[simp] theorem load_tickArmed (s : State) : (load s).tickArmed = s.tickArmed := by rw [load_frame]
@[simp] theorem load_anchor (s : State) : (load s).anchor = s.anchor := by rw [load_frame]
@[simp] theorem load_sysTicks (s : State) : (load s).sysTicks = s.sysTicks := by rw [load_frame]
@[simp] theorem load_tickBusy (s : State) : (load s).tickBusy = s.tickBusy := by rw [load_frame]
@[simp] theorem load_running (s : State) : (load s).running = s.running := by rw [load_frame]
@[simp] theorem load_estopped (s : State) : (load s).estopped = s.estopped := by rw [load_frame]
@[simp] theorem load_result (s : State) : (load s).result = s.result := by rw [load_frame]
@[simp] theorem load_slots (s : State) : (load s).slots = s.slots := by rw [load_frame]
@[simp] theorem load_head (s : State) : (load s).head = s.head := by rw [load_frame]
@[simp] theorem load_tail (s : State) : (load s).tail = s.tail := by rw [load_frame]
@[simp] theorem load_stepOut (s : State) : (load s).stepOut = s.stepOut := by rw [load_frame]
@[simp] theorem load_pulseTimer (s : State) : (load s).pulseTimer = s.pulseTimer := by rw [load_frame]
@[simp] theorem load_drvEn (s : State) : (load s).drvEn = s.drvEn := by rw [load_frame]
@[simp] theorem load_pos (s : State) : (load s).pos = s.pos := by rw [load_frame]
@[simp] theorem load_pins (s : State) : (load s).pins = s.pins := by rw [load_frame]
@[simp] theorem load_readData (s : State) : (load s).readData = s.readData := by rw [load_frame]
@[simp] theorem load_program (s : State) : (load s).program = s.program := by rw [load_frame]
@[simp] theorem load_schedule (s : State) : (load s).schedule = s.schedule := by rw [load_frame]

/-! ### complete -/

theorem complete_frame (s : State) :
    (complete s) = { s with
      live := (complete s).live, stepNo := (complete s).stepNo, bres := (complete s).bres,
      cur := (complete s).cur, phase := (complete s).phase, rampN := (complete s).rampN,
      cCruise := (complete s).cCruise, dsp := (complete s).dsp, ocrA := (complete s).ocrA,
      stepArmed := (complete s).stepArmed, nst := (complete s).nst, head := (complete s).head,
      dirOut := (complete s).dirOut, db := (complete s).db, draws := (complete s).draws } := by
  simp only [complete]
  split
  · rw [load_frame]
  · rfl

@[simp] theorem complete_cfg (s : State) : (complete s).cfg = s.cfg := by rw [complete_frame]
@[simp] theorem complete_mv (s : State) : (complete s).mv = s.mv := by rw [complete_frame]
@[simp] theorem complete_cnt (s : State) : (complete s).cnt = s.cnt := by rw [complete_frame]
@[simp] theorem complete_ocrB (s : State) : (complete s).ocrB = s.ocrB := by rw [complete_frame]
@[simp] theorem complete_tickArmed (s : State) : (complete s).tickArmed = s.tickArmed := by rw [complete_frame]
@[simp] theorem complete_anchor (s : State) : (complete s).anchor = s.anchor := by rw [complete_frame]
@[simp] theorem complete_sysTicks (s : State) : (complete s).sysTicks = s.sysTicks := by rw [complete_frame]
@[simp] theorem complete_tickBusy (s : State) : (complete s).tickBusy = s.tickBusy := by rw [complete_frame]
@[simp] theorem complete_running (s : State) : (complete s).running = s.running := by rw [complete_frame]
@[simp] theorem complete_estopped (s : State) : (complete s).estopped = s.estopped := by rw [complete_frame]
@[simp] theorem complete_result (s : State) : (complete s).result = s.result := by rw [complete_frame]
@[simp] theorem complete_slots (s : State) : (complete s).slots = s.slots := by rw [complete_frame]
@[simp] theorem complete_tail (s : State) : (complete s).tail = s.tail := by rw [complete_frame]
@[simp] theorem complete_stepOut (s : State) : (complete s).stepOut = s.stepOut := by rw [complete_frame]
@[simp] theorem complete_pulseTimer (s : State) : (complete s).pulseTimer = s.pulseTimer := by rw [complete_frame]
@[simp] theorem complete_drvEn (s : State) : (complete s).drvEn = s.drvEn := by rw [complete_frame]
@[simp] theorem complete_pos (s : State) : (complete s).pos = s.pos := by rw [complete_frame]
@[simp] theorem complete_pins (s : State) : (complete s).pins = s.pins := by rw [complete_frame]
@[simp] theorem complete_readData (s : State) : (complete s).readData = s.readData := by rw [complete_frame]
@[simp] theorem complete_program (s : State) : (complete s).program = s.program := by rw [complete_frame]
@[simp] theorem complete_schedule (s : State) : (complete s).schedule = s.schedule := by rw [complete_frame]

/-! ### stepNext -/

theorem stepNext_frame (s : State) :
    (stepNext s) = { s with
      live := (stepNext s).live, stepNo := (stepNext s).stepNo, bres := (stepNext s).bres,
      cur := (stepNext s).cur, phase := (stepNext s).phase, rampN := (stepNext s).rampN,
      cCruise := (stepNext s).cCruise, dsp := (stepNext s).dsp, ocrA := (stepNext s).ocrA,
      stepArmed := (stepNext s).stepArmed, nst := (stepNext s).nst, head := (stepNext s).head,
      dirOut := (stepNext s).dirOut, db := (stepNext s).db, draws := (stepNext s).draws } := by
  simp only [stepNext, callSched_eq_arm, State.arm]
  split
  · rw [complete_frame, nextInterval_frame]
  · rw [nextInterval_frame]

@[simp] theorem stepNext_cfg (s : State) : (stepNext s).cfg = s.cfg := by rw [stepNext_frame]
@[simp] theorem stepNext_mv (s : State) : (stepNext s).mv = s.mv := by rw [stepNext_frame]
@[simp] theorem stepNext_cnt (s : State) : (stepNext s).cnt = s.cnt := by rw [stepNext_frame]
@[simp] theorem stepNext_ocrB (s : State) : (stepNext s).ocrB = s.ocrB := by rw [stepNext_frame]
@[simp] theorem stepNext_tickArmed (s : State) : (stepNext s).tickArmed = s.tickArmed := by rw [stepNext_frame]
@[simp] theorem stepNext_anchor (s : State) : (stepNext s).anchor = s.anchor := by rw [stepNext_frame]
@[simp] theorem stepNext_sysTicks (s : State) : (stepNext s).sysTicks = s.sysTicks := by rw [stepNext_frame]
@[simp] theorem stepNext_tickBusy (s : State) : (stepNext s).tickBusy = s.tickBusy := by rw [stepNext_frame]
@[simp] theorem stepNext_running (s : State) : (stepNext s).running = s.running := by rw [stepNext_frame]
@[simp] theorem stepNext_estopped (s : State) : (stepNext s).estopped = s.estopped := by rw [stepNext_frame]
@[simp] theorem stepNext_result (s : State) : (stepNext s).result = s.result := by rw [stepNext_frame]
@[simp] theorem stepNext_slots (s : State) : (stepNext s).slots = s.slots := by rw [stepNext_frame]
@[simp] theorem stepNext_tail (s : State) : (stepNext s).tail = s.tail := by rw [stepNext_frame]
@[simp] theorem stepNext_stepOut (s : State) : (stepNext s).stepOut = s.stepOut := by rw [stepNext_frame]
@[simp] theorem stepNext_pulseTimer (s : State) : (stepNext s).pulseTimer = s.pulseTimer := by rw [stepNext_frame]
@[simp] theorem stepNext_drvEn (s : State) : (stepNext s).drvEn = s.drvEn := by rw [stepNext_frame]
@[simp] theorem stepNext_pos (s : State) : (stepNext s).pos = s.pos := by rw [stepNext_frame]
@[simp] theorem stepNext_pins (s : State) : (stepNext s).pins = s.pins := by rw [stepNext_frame]
@[simp] theorem stepNext_readData (s : State) : (stepNext s).readData = s.readData := by rw [stepNext_frame]
@[simp] theorem stepNext_program (s : State) : (stepNext s).program = s.program := by rw [stepNext_frame]
@[simp] theorem stepNext_schedule (s : State) : (stepNext s).schedule = s.schedule := by rw [stepNext_frame]

/-! ### stepDda -/

theorem stepDda_frame (s : State) :
    (stepDda s) = { s with
      live := (stepDda s).live, stepNo := (stepDda s).stepNo, bres := (stepDda s).bres,
      cur := (stepDda s).cur, phase := (stepDda s).phase, rampN := (stepDda s).rampN,
      cCruise := (stepDda s).cCruise, dsp := (stepDda s).dsp, ocrA := (stepDda s).ocrA,
      stepArmed := (stepDda s).stepArmed, nst := (stepDda s).nst, head := (stepDda s).head,
      stepOut := (stepDda s).stepOut, pulseTimer := (stepDda s).pulseTimer, dirOut := (stepDda s).dirOut,
      pos := (stepDda s).pos, db := (stepDda s).db, draws := (stepDda s).draws } := by
  simp only [stepDda]
  rw [stepNext_frame, stepEndstops_frame]
  rfl

@[simp] theorem stepDda_cfg (s : State) : (stepDda s).cfg = s.cfg := by rw [stepDda_frame]
@[simp] theorem stepDda_mv (s : State) : (stepDda s).mv = s.mv := by rw [stepDda_frame]
@[simp] theorem stepDda_cnt (s : State) : (stepDda s).cnt = s.cnt := by rw [stepDda_frame]
@[simp] theorem stepDda_ocrB (s : State) : (stepDda s).ocrB = s.ocrB := by rw [stepDda_frame]
@[simp] theorem stepDda_tickArmed (s : State) : (stepDda s).tickArmed = s.tickArmed := by rw [stepDda_frame]
@[simp] theorem stepDda_anchor (s : State) : (stepDda s).anchor = s.anchor := by rw [stepDda_frame]
@[simp] theorem stepDda_sysTicks (s : State) : (stepDda s).sysTicks = s.sysTicks := by rw [stepDda_frame]
@[simp] theorem stepDda_tickBusy (s : State) : (stepDda s).tickBusy = s.tickBusy := by rw [stepDda_frame]
@[simp] theorem stepDda_running (s : State) : (stepDda s).running = s.running := by rw [stepDda_frame]
@[simp] theorem stepDda_estopped (s : State) : (stepDda s).estopped = s.estopped := by rw [stepDda_frame]
@[simp] theorem stepDda_result (s : State) : (stepDda s).result = s.result := by rw [stepDda_frame]
@[simp] theorem stepDda_slots (s : State) : (stepDda s).slots = s.slots := by rw [stepDda_frame]
@[simp] theorem stepDda_tail (s : State) : (stepDda s).tail = s.tail := by rw [stepDda_frame]
@[simp] theorem stepDda_drvEn (s : State) : (stepDda s).drvEn = s.drvEn := by rw [stepDda_frame]
@[simp] theorem stepDda_pins (s : State) : (stepDda s).pins = s.pins := by rw [stepDda_frame]
@[simp] theorem stepDda_readData (s : State) : (stepDda s).readData = s.readData := by rw [stepDda_frame]
@[simp] theorem stepDda_program (s : State) : (stepDda s).program = s.program := by rw [stepDda_frame]
@[simp] theorem stepDda_schedule (s : State) : (stepDda s).schedule = s.schedule := by rw [stepDda_frame]

/-! ### ddaFire -/

theorem ddaFire_frame (s : State) :
    (ddaFire s) = { s with
      live := (ddaFire s).live, stepNo := (ddaFire s).stepNo, bres := (ddaFire s).bres,
      cur := (ddaFire s).cur, phase := (ddaFire s).phase, rampN := (ddaFire s).rampN,
      cCruise := (ddaFire s).cCruise, dsp := (ddaFire s).dsp, ocrA := (ddaFire s).ocrA,
      stepArmed := (ddaFire s).stepArmed, nst := (ddaFire s).nst, head := (ddaFire s).head,
      stepOut := (ddaFire s).stepOut, pulseTimer := (ddaFire s).pulseTimer, dirOut := (ddaFire s).dirOut,
      pos := (ddaFire s).pos, db := (ddaFire s).db, draws := (ddaFire s).draws } := by
  simp only [ddaFire, callSched_eq_arm, State.arm]
  split
  · split
    · rfl
    · split
      · rw [complete_frame]
      · rw [stepDda_frame]
  · rfl

@[simp] theorem ddaFire_cfg (s : State) : (ddaFire s).cfg = s.cfg := by rw [ddaFire_frame]
@[simp] theorem ddaFire_mv (s : State) : (ddaFire s).mv = s.mv := by rw [ddaFire_frame]
@[simp] theorem ddaFire_cnt (s : State) : (ddaFire s).cnt = s.cnt := by rw [ddaFire_frame]
@[simp] theorem ddaFire_ocrB (s : State) : (ddaFire s).ocrB = s.ocrB := by rw [ddaFire_frame]
@[simp] theorem ddaFire_tickArmed (s : State) : (ddaFire s).tickArmed = s.tickArmed := by rw [ddaFire_frame]
@[simp] theorem ddaFire_anchor (s : State) : (ddaFire s).anchor = s.anchor := by rw [ddaFire_frame]
@[simp] theorem ddaFire_sysTicks (s : State) : (ddaFire s).sysTicks = s.sysTicks := by rw [ddaFire_frame]
@[simp] theorem ddaFire_tickBusy (s : State) : (ddaFire s).tickBusy = s.tickBusy := by rw [ddaFire_frame]
@[simp] theorem ddaFire_running (s : State) : (ddaFire s).running = s.running := by rw [ddaFire_frame]
@[simp] theorem ddaFire_estopped (s : State) : (ddaFire s).estopped = s.estopped := by rw [ddaFire_frame]
@[simp] theorem ddaFire_result (s : State) : (ddaFire s).result = s.result := by rw [ddaFire_frame]
@[simp] theorem ddaFire_slots (s : State) : (ddaFire s).slots = s.slots := by rw [ddaFire_frame]
@[simp] theorem ddaFire_tail (s : State) : (ddaFire s).tail = s.tail := by rw [ddaFire_frame]
@[simp] theorem ddaFire_drvEn (s : State) : (ddaFire s).drvEn = s.drvEn := by rw [ddaFire_frame]
@[simp] theorem ddaFire_pins (s : State) : (ddaFire s).pins = s.pins := by rw [ddaFire_frame]
@[simp] theorem ddaFire_readData (s : State) : (ddaFire s).readData = s.readData := by rw [ddaFire_frame]
@[simp] theorem ddaFire_program (s : State) : (ddaFire s).program = s.program := by rw [ddaFire_frame]
@[simp] theorem ddaFire_schedule (s : State) : (ddaFire s).schedule = s.schedule := by rw [ddaFire_frame]

/-! ### realFire -/

theorem realFire_frame (s : State) :
    (realFire s) = { s with
      live := (realFire s).live, stepNo := (realFire s).stepNo, bres := (realFire s).bres,
      cur := (realFire s).cur, phase := (realFire s).phase, rampN := (realFire s).rampN,
      cCruise := (realFire s).cCruise, dsp := (realFire s).dsp, ocrA := (realFire s).ocrA,
      stepArmed := (realFire s).stepArmed, nst := (realFire s).nst, anchor := (realFire s).anchor,
      head := (realFire s).head, stepOut := (realFire s).stepOut, pulseTimer := (realFire s).pulseTimer,
      dirOut := (realFire s).dirOut, pos := (realFire s).pos, db := (realFire s).db,
      draws := (realFire s).draws } := by
  simp only [realFire]
  rw [ddaFire_frame]

@[simp] theorem realFire_cfg (s : State) : (realFire s).cfg = s.cfg := by rw [realFire_frame]
@[simp] theorem realFire_mv (s : State) : (realFire s).mv = s.mv := by rw [realFire_frame]
@[simp] theorem realFire_cnt (s : State) : (realFire s).cnt = s.cnt := by rw [realFire_frame]
@[simp] theorem realFire_ocrB (s : State) : (realFire s).ocrB = s.ocrB := by rw [realFire_frame]
@[simp] theorem realFire_tickArmed (s : State) : (realFire s).tickArmed = s.tickArmed := by rw [realFire_frame]
@[simp] theorem realFire_sysTicks (s : State) : (realFire s).sysTicks = s.sysTicks := by rw [realFire_frame]
@[simp] theorem realFire_tickBusy (s : State) : (realFire s).tickBusy = s.tickBusy := by rw [realFire_frame]
@[simp] theorem realFire_running (s : State) : (realFire s).running = s.running := by rw [realFire_frame]
@[simp] theorem realFire_estopped (s : State) : (realFire s).estopped = s.estopped := by rw [realFire_frame]
@[simp] theorem realFire_result (s : State) : (realFire s).result = s.result := by rw [realFire_frame]
@[simp] theorem realFire_slots (s : State) : (realFire s).slots = s.slots := by rw [realFire_frame]
@[simp] theorem realFire_tail (s : State) : (realFire s).tail = s.tail := by rw [realFire_frame]
@[simp] theorem realFire_drvEn (s : State) : (realFire s).drvEn = s.drvEn := by rw [realFire_frame]
@[simp] theorem realFire_pins (s : State) : (realFire s).pins = s.pins := by rw [realFire_frame]
@[simp] theorem realFire_readData (s : State) : (realFire s).readData = s.readData := by rw [realFire_frame]
@[simp] theorem realFire_program (s : State) : (realFire s).program = s.program := by rw [realFire_frame]
@[simp] theorem realFire_schedule (s : State) : (realFire s).schedule = s.schedule := by rw [realFire_frame]

/-! ### cmpA -/

theorem cmpA_frame (s : State) :
    (cmpA s) = { s with
      live := (cmpA s).live, stepNo := (cmpA s).stepNo, bres := (cmpA s).bres, cur := (cmpA s).cur,
      phase := (cmpA s).phase, rampN := (cmpA s).rampN, cCruise := (cmpA s).cCruise, dsp := (cmpA s).dsp,
      ocrA := (cmpA s).ocrA, stepArmed := (cmpA s).stepArmed, nst := (cmpA s).nst, anchor := (cmpA s).anchor,
      head := (cmpA s).head, stepOut := (cmpA s).stepOut, pulseTimer := (cmpA s).pulseTimer,
      dirOut := (cmpA s).dirOut, pos := (cmpA s).pos, db := (cmpA s).db, draws := (cmpA s).draws } := by
  simp only [cmpA]
  split
  · rw [realFire_frame]
  · rfl

@[simp] theorem cmpA_cfg (s : State) : (cmpA s).cfg = s.cfg := by rw [cmpA_frame]
@[simp] theorem cmpA_mv (s : State) : (cmpA s).mv = s.mv := by rw [cmpA_frame]
@[simp] theorem cmpA_cnt (s : State) : (cmpA s).cnt = s.cnt := by rw [cmpA_frame]
@[simp] theorem cmpA_ocrB (s : State) : (cmpA s).ocrB = s.ocrB := by rw [cmpA_frame]
@[simp] theorem cmpA_tickArmed (s : State) : (cmpA s).tickArmed = s.tickArmed := by rw [cmpA_frame]
@[simp] theorem cmpA_sysTicks (s : State) : (cmpA s).sysTicks = s.sysTicks := by rw [cmpA_frame]
@[simp] theorem cmpA_tickBusy (s : State) : (cmpA s).tickBusy = s.tickBusy := by rw [cmpA_frame]
@[simp] theorem cmpA_running (s : State) : (cmpA s).running = s.running := by rw [cmpA_frame]
@[simp] theorem cmpA_estopped (s : State) : (cmpA s).estopped = s.estopped := by rw [cmpA_frame]
@[simp] theorem cmpA_result (s : State) : (cmpA s).result = s.result := by rw [cmpA_frame]
@[simp] theorem cmpA_slots (s : State) : (cmpA s).slots = s.slots := by rw [cmpA_frame]
@[simp] theorem cmpA_tail (s : State) : (cmpA s).tail = s.tail := by rw [cmpA_frame]
@[simp] theorem cmpA_drvEn (s : State) : (cmpA s).drvEn = s.drvEn := by rw [cmpA_frame]
@[simp] theorem cmpA_pins (s : State) : (cmpA s).pins = s.pins := by rw [cmpA_frame]
@[simp] theorem cmpA_readData (s : State) : (cmpA s).readData = s.readData := by rw [cmpA_frame]
@[simp] theorem cmpA_program (s : State) : (cmpA s).program = s.program := by rw [cmpA_frame]
@[simp] theorem cmpA_schedule (s : State) : (cmpA s).schedule = s.schedule := by rw [cmpA_frame]

/-! ### tick -/

theorem tick_frame (s : State) :
    (tick s) = { s with
      live := (tick s).live, stepNo := (tick s).stepNo, bres := (tick s).bres, cur := (tick s).cur,
      phase := (tick s).phase, rampN := (tick s).rampN, cCruise := (tick s).cCruise, dsp := (tick s).dsp,
      cnt := (tick s).cnt, ocrA := (tick s).ocrA, stepArmed := (tick s).stepArmed, ocrB := (tick s).ocrB,
      nst := (tick s).nst, anchor := (tick s).anchor, sysTicks := (tick s).sysTicks,
      tickBusy := (tick s).tickBusy, head := (tick s).head, stepOut := (tick s).stepOut,
      pulseTimer := (tick s).pulseTimer, dirOut := (tick s).dirOut, pos := (tick s).pos, db := (tick s).db,
      draws := (tick s).draws } := by
  simp only [tick]
  split
  · split
    · split
      · rw [cmpA_frame]; rfl
      · rw [cmpA_frame]; rfl
    · split <;> rfl
  · rfl

@[simp] theorem tick_cfg (s : State) : (tick s).cfg = s.cfg := by rw [tick_frame]
@[simp] theorem tick_mv (s : State) : (tick s).mv = s.mv := by rw [tick_frame]
@[simp] theorem tick_tickArmed (s : State) : (tick s).tickArmed = s.tickArmed := by rw [tick_frame]
@[simp] theorem tick_running (s : State) : (tick s).running = s.running := by rw [tick_frame]
@[simp] theorem tick_estopped (s : State) : (tick s).estopped = s.estopped := by rw [tick_frame]
@[simp] theorem tick_result (s : State) : (tick s).result = s.result := by rw [tick_frame]
@[simp] theorem tick_slots (s : State) : (tick s).slots = s.slots := by rw [tick_frame]
@[simp] theorem tick_tail (s : State) : (tick s).tail = s.tail := by rw [tick_frame]
@[simp] theorem tick_drvEn (s : State) : (tick s).drvEn = s.drvEn := by rw [tick_frame]
@[simp] theorem tick_pins (s : State) : (tick s).pins = s.pins := by rw [tick_frame]
@[simp] theorem tick_readData (s : State) : (tick s).readData = s.readData := by rw [tick_frame]
@[simp] theorem tick_program (s : State) : (tick s).program = s.program := by rw [tick_frame]
@[simp] theorem tick_schedule (s : State) : (tick s).schedule = s.schedule := by rw [tick_frame]

/-! ### enqueue -/

theorem enqueue_frame (m : Move) (s : State) :
    (enqueue m s) = { s with
      live := (enqueue m s).live, stepNo := (enqueue m s).stepNo, bres := (enqueue m s).bres,
      cur := (enqueue m s).cur, phase := (enqueue m s).phase, rampN := (enqueue m s).rampN,
      cCruise := (enqueue m s).cCruise, dsp := (enqueue m s).dsp, ocrA := (enqueue m s).ocrA,
      stepArmed := (enqueue m s).stepArmed, nst := (enqueue m s).nst, anchor := (enqueue m s).anchor,
      slots := (enqueue m s).slots, tail := (enqueue m s).tail, dirOut := (enqueue m s).dirOut,
      db := (enqueue m s).db, draws := (enqueue m s).draws } := by
  by_cases h : s.live = true
  · rw [show enqueue m s = _ from if_pos h]; rfl
  · rw [show enqueue m s = _ from if_neg h, load_frame]; rfl

@[simp] theorem enqueue_cfg (m : Move) (s : State) : (enqueue m s).cfg = s.cfg := by rw [enqueue_frame]
@[simp] theorem enqueue_mv (m : Move) (s : State) : (enqueue m s).mv = s.mv := by rw [enqueue_frame]
@[simp] theorem enqueue_cnt (m : Move) (s : State) : (enqueue m s).cnt = s.cnt := by rw [enqueue_frame]
@[simp] theorem enqueue_ocrB (m : Move) (s : State) : (enqueue m s).ocrB = s.ocrB := by rw [enqueue_frame]
@[simp] theorem enqueue_tickArmed (m : Move) (s : State) : (enqueue m s).tickArmed = s.tickArmed := by rw [enqueue_frame]
@[simp] theorem enqueue_sysTicks (m : Move) (s : State) : (enqueue m s).sysTicks = s.sysTicks := by rw [enqueue_frame]
@[simp] theorem enqueue_tickBusy (m : Move) (s : State) : (enqueue m s).tickBusy = s.tickBusy := by rw [enqueue_frame]
@[simp] theorem enqueue_running (m : Move) (s : State) : (enqueue m s).running = s.running := by rw [enqueue_frame]
@[simp] theorem enqueue_estopped (m : Move) (s : State) : (enqueue m s).estopped = s.estopped := by rw [enqueue_frame]
@[simp] theorem enqueue_result (m : Move) (s : State) : (enqueue m s).result = s.result := by rw [enqueue_frame]
@[simp] theorem enqueue_head (m : Move) (s : State) : (enqueue m s).head = s.head := by rw [enqueue_frame]
@[simp] theorem enqueue_stepOut (m : Move) (s : State) : (enqueue m s).stepOut = s.stepOut := by rw [enqueue_frame]
@[simp] theorem enqueue_pulseTimer (m : Move) (s : State) : (enqueue m s).pulseTimer = s.pulseTimer := by rw [enqueue_frame]
@[simp] theorem enqueue_drvEn (m : Move) (s : State) : (enqueue m s).drvEn = s.drvEn := by rw [enqueue_frame]
@[simp] theorem enqueue_pos (m : Move) (s : State) : (enqueue m s).pos = s.pos := by rw [enqueue_frame]
@[simp] theorem enqueue_pins (m : Move) (s : State) : (enqueue m s).pins = s.pins := by rw [enqueue_frame]
@[simp] theorem enqueue_readData (m : Move) (s : State) : (enqueue m s).readData = s.readData := by rw [enqueue_frame]
@[simp] theorem enqueue_program (m : Move) (s : State) : (enqueue m s).program = s.program := by rw [enqueue_frame]
@[simp] theorem enqueue_schedule (m : Move) (s : State) : (enqueue m s).schedule = s.schedule := by rw [enqueue_frame]

end Sys2Proof.Machine
end

