-- ==== Sys2Proof/Laws/Memory.lean ====
section
/-! SUPPORT. The slot memory: read after write, and that a write keeps the canonical form (20_memory.md R60, R72). -/

namespace Sys2Proof.Machine

theorem readSlot_writeSlot_same (mem : Memory) (i : Nat) (m : Move) :
    Memory.readSlot (Memory.writeSlot mem i m) i = some m := by
  induction mem with
  | nil => simp [Memory.writeSlot, Memory.readSlot]
  | cons e rest ih =>
    obtain ⟨j, n⟩ := e
    simp only [Memory.writeSlot]
    split
    · simp [Memory.readSlot]
    · split
      · simp [Memory.readSlot]
      · next h2 => simpa [Memory.readSlot, h2] using ih

theorem readSlot_writeSlot_other (mem : Memory) {i k : Nat} (m : Move) (h : k ≠ i) :
    Memory.readSlot (Memory.writeSlot mem i m) k = Memory.readSlot mem k := by
  induction mem with
  | nil => simp [Memory.writeSlot, Memory.readSlot, h]
  | cons e rest ih =>
    obtain ⟨j, n⟩ := e
    simp only [Memory.writeSlot]
    split
    · simp [Memory.readSlot, h]
    · split
      · next e => subst e; simp [Memory.readSlot, h]
      · simp [Memory.readSlot, ih]

/-- Every index of `writeSlot mem i m` is `i` or one of `mem`. -/
theorem mem_writeSlot {mem : Memory} {i : Nat} {m : Move} {e : Nat × Move}
    (h : e ∈ Memory.writeSlot mem i m) : e.1 = i ∨ e ∈ mem := by
  induction mem with
  | nil => simp [Memory.writeSlot] at h; exact .inl (by rw [h])
  | cons a rest ih =>
    obtain ⟨j, n⟩ := a
    simp only [Memory.writeSlot] at h
    split at h
    · rcases List.mem_cons.1 h with rfl | h
      · exact .inl rfl
      · exact .inr h
    · split at h
      · rcases List.mem_cons.1 h with rfl | h
        · exact .inl rfl
        · exact .inr (List.mem_cons_of_mem _ h)
      · rcases List.mem_cons.1 h with rfl | h
        · exact .inr List.mem_cons_self
        · exact (ih h).imp id (List.mem_cons_of_mem _)

theorem wf_cons {a : Nat × Move} {mem : Memory} :
    Memory.wf (a :: mem) = true ↔ (∀ e ∈ mem, a.1 < e.1) ∧ Memory.wf mem = true := by
  induction mem generalizing a with
  | nil => simp [Memory.wf]
  | cons b rest ih =>
    simp only [Memory.wf, Bool.and_eq_true, decide_eq_true_eq]
    constructor
    · rintro ⟨h1, h2⟩
      refine ⟨fun e he => ?_, h2⟩
      rcases List.mem_cons.1 he with rfl | he
      · exact h1
      · exact h1.trans ((ih.1 h2).1 e he)
    · rintro ⟨h1, h2⟩
      exact ⟨h1 b List.mem_cons_self, h2⟩

/-- A write keeps the canonical form. -/
theorem writeSlot_wf {mem : Memory} (i : Nat) (m : Move) (h : Memory.wf mem = true) :
    Memory.wf (Memory.writeSlot mem i m) = true := by
  induction mem with
  | nil => rfl
  | cons a rest ih =>
    obtain ⟨j, n⟩ := a
    obtain ⟨h1, h2⟩ := wf_cons.1 h
    simp only [Memory.writeSlot]
    split
    · next hij =>
      exact wf_cons.2 ⟨fun e he => by
        rcases List.mem_cons.1 he with rfl | he
        · exact hij
        · exact hij.trans (h1 e he), h⟩
    · split
      · next e => subst e; exact wf_cons.2 ⟨h1, h2⟩
      · next hij hne =>
        exact wf_cons.2 ⟨fun e he => by
          rcases mem_writeSlot he with e1 | e1
          · show j < e.1; omega
          · exact h1 e e1, ih h2⟩

/-- The reset memory has the form. -/
theorem reset_slots_wf (c : Config) : Memory.wf (State.resetWith c).slots = true := rfl

/-- Writing what is there already changes nothing that is read: equal reads at every index are equal memories. -/
theorem ext_of_wf {a b : Memory} (ha : Memory.wf a = true) (hb : Memory.wf b = true)
    (h : ∀ i, Memory.readSlot a i = Memory.readSlot b i) : a = b := by
  induction a generalizing b with
  | nil =>
    cases b with
    | nil => rfl
    | cons y ys => have := h y.1; simp [Memory.readSlot] at this
  | cons x xs ih =>
    cases b with
    | nil => have := h x.1; simp [Memory.readSlot] at this
    | cons y ys =>
      obtain ⟨hx, hxs⟩ := wf_cons.1 ha
      obtain ⟨hy, hys⟩ := wf_cons.1 hb
      have none_below : ∀ {l : Memory} {i : Nat}, (∀ e ∈ l, i < e.1) → Memory.readSlot l i = none := by
        intro l i hl
        induction l with
        | nil => rfl
        | cons z zs ihz =>
          have hz := hl z List.mem_cons_self
          have hne : i ≠ z.1 := by omega
          simp only [Memory.readSlot, hne, if_false]
          exact ihz fun e he => hl e (List.mem_cons_of_mem _ he)
      have hk : x.1 = y.1 := by
        rcases lt_trichotomy x.1 y.1 with hlt | heq | hgt
        · have := h x.1
          rw [none_below (l := y :: ys) (i := x.1) (fun e he => by
            rcases List.mem_cons.1 he with rfl | he
            · exact hlt
            · exact hlt.trans (hy e he))] at this
          simp [Memory.readSlot] at this
        · exact heq
        · have := h y.1
          rw [none_below (l := x :: xs) (i := y.1) (fun e he => by
            rcases List.mem_cons.1 he with rfl | he
            · exact hgt
            · exact hgt.trans (hx e he))] at this
          simp [Memory.readSlot] at this
      have hv : x.2 = y.2 := by
        have := h x.1
        simp only [Memory.readSlot, if_true, hk] at this
        simpa using this
      have hxy : x = y := Prod.ext hk hv
      subst hxy
      congr 1
      apply ih hxs hys
      intro i
      by_cases hi : i = x.1
      · subst hi
        rw [none_below hx, none_below hy]
      · have := h i
        simpa [Memory.readSlot, hi] using this

end Sys2Proof.Machine
end

