-- ==== Sys2Proof/Laws/Queue.lean ====
section
/-! SUPPORT. The ring and VALID (43_move_queue.md R155 to R163): what an entry holds, that PUSH's slot is no queued slot,
and what a Move that VALID let through satisfies. -/

namespace Sys2Proof.Machine

/-! ### Entries of the ring -/

theorem slotAt_of_readSlot {s : State} {i : Nat} {m : Move}
    (h : Memory.readSlot s.slots (i % s.cfg.queueCapacity) = some m) : s.slotAt i = m := by
  simp [State.slotAt, h]

/-- Under the slot part of the invariant every queued entry is a Move that VALID let through. -/
theorem slotAt_moveOk {s : State} (h : InvSlots s) {k : Nat} (hk : k < s.qlen) :
    moveOk s.cfg (s.slotAt (s.head + k)) := by
  have hq := h.2.2 ⟨k, hk⟩
  rcases hx : Memory.readSlot s.slots ((s.head + k) % s.cfg.queueCapacity) with _ | m
  · rw [hx] at hq; simp at hq
  · rw [hx] at hq
    rw [slotAt_of_readSlot hx]
    simpa only [Option.any_some, decide_eq_true_eq] using hq

/-- The live Move of a ring that is not empty. -/
theorem liveMove_moveOk {s : State} (h : InvSlots s) (hq : 0 < s.qlen) : moveOk s.cfg s.liveMove :=
  slotAt_moveOk h (k := 0) hq

/-- A queued entry and the entry at `tail` are different slots while the ring is not full (R155, R156). -/
theorem queued_ne_tail {h t c k : Nat} (hh : h < 2 * c) (ht : t < 2 * c)
    (hk : k < subMod (2 * c) t h) (hq : subMod (2 * c) t h < c) : (h + k) % c ≠ t % c := by
  rw [subMod_small ht hh] at hk hq
  intro e
  have e1 := Nat.div_add_mod (h + k) c
  have e2 := Nat.div_add_mod t c
  rw [e] at e1
  have hlt : h + k < 4 * c := by
    by_cases hle : h ≤ t <;> simp only [hle, if_true, if_false] at hk hq <;> omega
  have hd1 : (h + k) / c < 4 := Nat.div_lt_of_lt_mul (by omega)
  have hd2 : t / c < 2 := Nat.div_lt_of_lt_mul (by omega)
  generalize (h + k) / c = a at *
  generalize t / c = b at *
  have ha : a = 0 ∨ a = 1 ∨ a = 2 ∨ a = 3 := by omega
  have hb : b = 0 ∨ b = 1 := by omega
  by_cases hle : h ≤ t <;> simp only [hle, if_true, if_false] at hk hq <;>
    rcases ha with rfl | rfl | rfl | rfl <;> rcases hb with rfl | rfl <;> omega

/-! ### VALID (R159) -/

theorem mem_presentAxes {c : Config} {a : Fin 8} : a ∈ presentAxes c ↔ a.val < c.nAxes := by simp [presentAxes]

/-- A running maximum bounds its start and every element, and is one of them. -/
theorem foldl_max_spec (f : Fin 8 → Nat) (l : List (Fin 8)) (acc : Nat) :
    let r := l.foldl (fun x a => max x (f a)) acc
    acc ≤ r ∧ (∀ a ∈ l, f a ≤ r) ∧ (r = acc ∨ ∃ a ∈ l, f a = r) := by
  induction l generalizing acc with
  | nil => simp
  | cons x xs ih =>
    obtain ⟨h1, h2, h3⟩ := ih (max acc (f x))
    simp only [List.foldl_cons]
    refine ⟨by omega, fun a ha => ?_, ?_⟩
    · rcases List.mem_cons.1 ha with rfl | ha
      · omega
      · exact h2 a ha
    · rcases h3 with h | ⟨a, ha, h⟩
      · rcases le_total acc (f x) with hl | hl
        · exact .inr ⟨x, List.mem_cons_self, by rw [h]; omega⟩
        · exact .inl (by rw [h]; omega)
      · exact .inr ⟨a, List.mem_cons_of_mem _ ha, h⟩

theorem le_maxDelta {c : Config} {mv : Vector Word 16} {a : Fin 8} (ha : a.val < c.nAxes) :
    (mvAxis mv a).toNat ≤ maxDelta c mv :=
  (foldl_max_spec (fun a => (mvAxis mv a).toNat) (presentAxes c) 0).2.1 a (mem_presentAxes.2 ha)

theorem maxDelta_attained {c : Config} {mv : Vector Word 16} (h : 1 ≤ maxDelta c mv) :
    ∃ a : Fin 8, a.val < c.nAxes ∧ (mvAxis mv a).toNat = maxDelta c mv := by
  rcases (foldl_max_spec (fun a => (mvAxis mv a).toNat) (presentAxes c) 0).2.2 with e | ⟨a, ha, e⟩
  · have : maxDelta c mv = 0 := e
    omega
  · exact ⟨a, mem_presentAxes.1 ha, e⟩

@[simp] theorem decodeMove_delta (mv : Vector Word 16) (esmask : BitVec 16) (escond : Bool) (a : Fin 8) :
    (decodeMove mv esmask escond).delta[a] = mvAxis mv a := by simp [decodeMove]

theorem absentAxesStill_iff {c : Config} {mv : Vector Word 16} :
    absentAxesStill c mv = true ↔ ∀ a : Fin 8, c.nAxes ≤ a.val → mvAxis mv a = 0 := by
  simp only [absentAxesStill, List.all_eq_true, List.mem_finRange, forall_const, Bool.or_eq_true, decide_eq_true_eq,
    beq_iff_eq]
  exact forall_congr' fun a => by rw [← Nat.not_lt, Classical.or_iff_not_imp_left]

/-- No bit at or above `n` is the same as a shift by `n` that leaves nothing. -/
theorem ushiftRight_eq_zero_iff {w : Nat} (v : BitVec w) (n : Nat) :
    v >>> n = 0 ↔ ∀ b, n ≤ b → v.getLsbD b = false := by
  constructor
  · intro h b hb
    have := congrArg (fun x : BitVec w => x.getLsbD (b - n)) h
    simp only [BitVec.getLsbD_ushiftRight] at this
    rw [show n + (b - n) = b by omega] at this
    simpa using this
  · intro h
    apply BitVec.eq_of_getLsbD_eq
    intro i _
    rw [BitVec.getLsbD_ushiftRight, h _ (by omega)]
    simp

/-- What VALID let through, as a stored Move (R159, R163). -/
theorem valid_moveOk {c : Config} {mv : Vector Word 16} {home : Bool} {esmask : BitVec 16} (escond : Bool)
    (hes : home = false → esmask = 0) (h : valid c mv home esmask = true) :
    moveOk c (decodeMove mv esmask escond) := by
  simp only [valid, Bool.and_eq_true, validCommon, beq_iff_eq] at h
  obtain ⟨⟨⟨⟨_, hdir⟩, habs⟩, hbody⟩, hhome⟩ := h
  have habs := absentAxesStill_iff.1 habs
  refine ⟨⟨fun a ha => ⟨(ushiftRight_eq_zero_iff _ _).1 hdir _ ha, ?_⟩, fun b hb => ?_⟩, ?_⟩
  · rw [decodeMove_delta]; exact habs a ha
  · cases home
    · simp [decodeMove, hes rfl]
    · simp only [validHome, Bool.not_true, Bool.false_or, beq_iff_eq] at hhome
      exact (ushiftRight_eq_zero_iff _ _).1 hhome _ hb
  · show if mvDwell mv then _ else _
    split
    · next hd =>
      rw [if_pos hd] at hbody
      simp only [validDwell, Bool.and_eq_true, List.all_eq_true, List.mem_finRange, forall_const, beq_iff_eq,
        Bool.not_eq_true'] at hbody
      obtain ⟨⟨⟨⟨h1, h2⟩, h3⟩, h4⟩, h5⟩ := hbody
      exact ⟨h2, fun a => by rw [decodeMove_delta]; exact h3 a, h4, h5, hes h1⟩
    · next hd =>
      rw [if_neg hd] at hbody
      simp only [validSteps, Bool.and_eq_true, decide_eq_true_eq, beq_iff_eq] at hbody
      obtain ⟨⟨⟨⟨h1, h2⟩, h3⟩, h4⟩, h5⟩ := hbody
      refine ⟨h1, fun a => ?_, ?_, h3, h4, h5⟩
      · rw [decodeMove_delta]
        show _ ≤ (mvTotalSteps mv).toNat
        by_cases ha : a.val < c.nAxes
        · rw [h2]; exact le_maxDelta ha
        · rw [habs a (by omega)]; simp
      · obtain ⟨a, ha, e⟩ := maxDelta_attained (c := c) (mv := mv) (by omega)
        exact ⟨a, ha, by rw [decodeMove_delta]; apply BitVec.eq_of_toNat_eq; rw [e, ← h2]; rfl⟩

end Sys2Proof.Machine
end

