-- ==== Sys2Proof/Laws/Engine.lean ====
section
/-! SUPPORT. What the operations of the profiler, the debouncer and the engine answer, one fact each: later proofs cite
these instead of unfolding (41_velocity_profiler.md, 42_dda_engine.md, 45_endstop_debouncer.md). -/

namespace Sys2Proof.Machine

/-! ### SCHED -/

theorem arm_ocrA_lt {s : State} (d : Nat) (h : s.anchor < s.cfg.range) : (s.arm d).ocrA < s.cfg.range := by
  simp only [State.arm]
  have := range_pos s.cfg
  split
  · exact Nat.mod_lt _ this
  · split
    · exact subMod_lt _ _ this
    · exact h

/-- SCHED, in its three branches (R103). -/
theorem arm_scheduledFor {s : State} (d : Nat) (wf : s.cfg.WellFormed) (h : s.anchor < s.cfg.range) :
    ScheduledFor (s.arm d) s.anchor d := by
  have hg := WF.guard_le wf
  have hrp := range_pos s.cfg
  refine ⟨rfl, fun b1 => ?_, fun b1 b2 => ?_, fun b2 => ?_⟩ <;> simp only [State.arm_cfg] at * <;> simp only [State.arm]
  · simp [b1]
  · have hn : ¬ d < s.cfg.range := by omega
    simp only [hn, b2, if_false, if_true]
    refine ⟨trivial, ?_, subMod_lt _ _ hrp⟩
    unfold subMod
    rw [Nat.mod_add_mod, Nat.mod_eq_of_lt (show s.cfg.counterGuard < s.cfg.range by have := WF.guard_pos wf; omega),
      show s.anchor + (s.cfg.range - s.cfg.counterGuard) + s.cfg.counterGuard = s.anchor + s.cfg.range by omega,
      Nat.add_mod_right, Nat.mod_eq_of_lt h]
  · have hn : ¬ d < s.cfg.range := by omega
    have hn2 : ¬ d < s.cfg.range + s.cfg.counterGuard := by omega
    simp [hn, hn2]

/-- "It cannot overflow" (10_state.md R28): a 32-bit delay leaves `nst` in 32 bits. -/
theorem arm_nst_lt {s : State} {d : Nat} (wf : s.cfg.WellFormed) (h : d < 2 ^ 32) : (s.arm d).nst < 2 ^ 32 := by
  simp only [State.arm]
  split
  · exact h
  · split
    · exact WF.guard_fits wf h (by omega) ‹_›
    · exact h

/-- A wrap fire never makes `nst` larger than 32 bits or than it was (R28, R107). -/
theorem wrapFire_nst_lt {s : State} (wf : s.cfg.WellFormed) (h : s.nst < 2 ^ 32) : (wrapFire s).nst < 2 ^ 32 := by
  simp only [wrapFire]
  split
  · omega
  · split
    · exact WF.guard_fits wf (by omega) (by omega) ‹_›
    · omega

/-! ### The profiler -/

theorem clamp_toNat {c : Config} (wf : c.WellFormed) (v : Nat) :
    (clamp c v).toNat = min (max v c.minStepTicks) (2 ^ 32 - 1) := by
  have := WF.min_lt_word wf
  rw [clamp, word_toNat (by omega)]

theorem clamp_ge {c : Config} (wf : c.WellFormed) (v : Nat) : c.minStepTicks ≤ (clamp c v).toNat := by
  have := WF.min_lt_word wf
  rw [clamp_toNat wf]; omega

theorem firstInterval_ge {s : State} (m : Move) (wf : s.cfg.WellFormed) :
    s.cfg.minStepTicks ≤ (firstInterval m s).1.toNat := by
  simp only [firstInterval]
  split
  · exact clamp_ge wf _
  · split <;> exact clamp_ge wf _

theorem nextInterval_ge {s : State} (wf : s.cfg.WellFormed) (h : (nextInterval s).2.1 = false) :
    s.cfg.minStepTicks ≤ (nextInterval s).1.toNat := by
  simp only [nextInterval] at h ⊢
  split at h
  · simp at h
  · next h1 =>
    rw [if_neg h1]
    split
    · exact clamp_ge wf _
    · split <;> exact clamp_ge wf _

/-- The end of a move, told after `step_no` was written (R127). -/
theorem nextInterval_ended_iff (s : State) :
    (nextInterval s).2.1 = true ↔ s.stepNo.toNat = s.liveMove.totalSteps.toNat := by
  simp only [nextInterval]
  split
  · next h => simp [h]
  · next h => simp only [h, iff_false]; split <;> [simp; (split <;> simp)]

/-! ### The debouncer -/

theorem dbSample_count_lt {c : Config} {ch : Channel} (raw : Bool) (h : 1 ≤ c.debounceSamples) :
    (dbSample c raw ch).1.count < c.debounceSamples := by
  simp only [dbSample]
  split
  · exact h
  · split
    · exact h
    · next h2 => exact Nat.lt_of_not_le h2

theorem stepEndstops_db (m : Move) (s : State) (b : Fin 16) :
    (stepEndstops m s).db[b] = if watched s.cfg m b then (dbSample s.cfg (s.esIn b) s.db[b]).1 else s.db[b] := by
  simp only [stepEndstops, sampleWatched, State.nextDraw_db, Fin.getElem_fin, Vector.getElem_ofFn]

theorem initWatched_db (m : Move) (s : State) (b : Fin 16) :
    (initWatched m s).db[b] = if watched s.cfg m b then ⟨s.esIn b, 0⟩ else s.db[b] := by
  simp only [initWatched, State.nextDraw_db, Fin.getElem_fin, Vector.getElem_ofFn, dbInit]

/-! ### STEP part 1 -/

theorem stepPulses_stepOut (m : Move) (s : State) (a : Fin 8) :
    (stepPulses m s).stepOut.getLsbD a.val = pulses m s a := by
  simp [stepPulses]

theorem stepPulses_bres (m : Move) (s : State) (a : Fin 8) : (stepPulses m s).bres[a] = bresAfter m s a := by
  simp [stepPulses]

theorem stepPulses_pos (m : Move) (s : State) (a : Fin 8) : (stepPulses m s).pos[a] = posAfter m s a := by
  simp [stepPulses]

/-! ### LOAD (R136, R137) -/

/-- Whatever the Move, LOAD makes the engine live at step 0 with the compare armed. -/
theorem load_starts (s : State) :
    (load s).live = true ∧ (load s).stepArmed = true ∧ (load s).stepNo = 0 ∧
      (load s).bres = Vector.replicate 8 (s.liveMove.totalSteps / 2) := by
  simp only [load]
  split
  · simp [loadDwell]
  · simp only [loadSteps]; split <;> simp

theorem load_dirOut (s : State) : (load s).dirOut = if s.liveMove.dwell then s.dirOut else s.liveMove.dir := by
  simp only [load]
  split
  · simp [loadDwell]
  · simp only [loadSteps]; split <;> simp

theorem load_dsp_of_dwell {s : State} (h : s.liveMove.dwell = true) : (load s).dsp = false := by
  simp [load, h, loadDwell]

/-- LOAD sets the step compare from the anchor: for `cur`, or for a no-op interval first (R136, R137). -/
theorem load_scheduledFor {s : State} (wf : s.cfg.WellFormed) (h : s.anchor < s.cfg.range) :
    ((load s).dsp = false → ScheduledFor (load s) s.anchor (load s).cur.toNat) ∧
    ((load s).dsp = true → ScheduledFor (load s) s.anchor (noopInterval s.cfg)) := by
  have key : ∀ (u : State) (d : Nat), u.cfg = s.cfg → u.anchor = s.anchor →
      ScheduledFor (u.arm d) s.anchor d := fun u d hc ha => by
    rw [← ha]; exact arm_scheduledFor d (hc ▸ wf) (by rw [hc, ha]; exact h)
  simp only [load]
  split
  · exact ⟨fun _ => key _ _ rfl rfl, fun x => by cases x⟩
  · simp only [loadSteps, callSched_eq_arm]
    split
    · exact ⟨fun x => by simp at x, fun _ => by simpa using key _ (noopInterval s.cfg) (by simp) (by simp)⟩
    · exact ⟨fun _ => key _ _ (by simp) (by simp), fun x => by simp at x⟩

theorem load_cur_ge {s : State} (wf : s.cfg.WellFormed) : s.cfg.minStepTicks ≤ (load s).cur.toNat := by
  have hmin := WF.min_lt_word wf
  simp only [load]
  split
  · simp only [loadDwell, callSched_eq_arm, State.arm_cur]
    rw [word_toNat (by have := s.liveMove.c0.isLt; show max s.liveMove.c0.toNat s.cfg.minStepTicks < _; omega)]
    exact le_max_right _ _
  · have h : ∀ u : State, u.cfg = s.cfg → s.cfg.minStepTicks ≤ (firstInterval s.liveMove u).1.toNat := by
      intro u e
      rw [← e]; exact firstInterval_ge _ (by rw [e]; exact wf)
    simp only [loadSteps, callSched_eq_arm]
    split <;> exact h _ (by simp)

end Sys2Proof.Machine
end

