-- ==== Sys2Proof/Laws/Fires.lean ====
section
/-! SUPPORT. What a TICK can do: its three cases (40_timer_scheduler.md R101), what a TICK without a real fire leaves alone,
and the countdown that SCHED starts (R103, R107, R108). -/

namespace Sys2Proof.Machine

/-- A TICK is: nothing, or the count with no step service, a wrap fire or a real fire, and after it perhaps the
tick service (R101, R106, R112). -/
theorem tick_cases (s : State) :
    (s.running = false ∧ tick s = s) ∨
    (s.running = true ∧ ∃ u, tick s = (if s.tickServiceNext then cmpB u else u) ∧
      ((s.realFireNext = false ∧ s.wrapFireNext = false ∧ u = countTick s) ∨
       (s.wrapFireNext = true ∧ s.realFireNext = false ∧ u = wrapFire (countTick s)) ∨
       (s.realFireNext = true ∧ s.wrapFireNext = false ∧ u = realFire (countTick s)))) := by
  by_cases hr : s.running = true
  · refine .inr ⟨hr, if (countTick s).matchA then cmpA (countTick s) else countTick s, ?_, ?_⟩
    · rw [show tick s = _ from if_pos hr]
      have hb : (if (countTick s).matchA then cmpA (countTick s) else countTick s).matchB = s.tickServiceNext := by
        split <;> simp [State.matchB, State.tickServiceNext, hr]
      simp only [hb]
    · by_cases ha : (countTick s).matchA = true
      · have ha' := ha
        simp only [State.matchA, countTick_stepArmed, countTick_cnt, countTick_ocrA, Bool.and_eq_true] at ha'
        by_cases hn : s.nst < s.cfg.range
        · refine .inr (.inr ⟨?_, ?_, ?_⟩)
          · simp [State.realFireNext, hr, ha'.1, ha'.2, hn]
          · simp only [State.wrapFireNext, Bool.and_eq_false_iff, decide_eq_false_iff_not]
            exact .inr (by omega)
          · rw [if_pos ha, show cmpA (countTick s) = _ from if_pos hn]
        · refine .inr (.inl ⟨?_, ?_, ?_⟩)
          · simp only [State.wrapFireNext, hr, ha'.1, ha'.2, Bool.true_and, decide_eq_true_eq]; omega
          · simp [State.realFireNext, hn]
          · rw [if_pos ha, show cmpA (countTick s) = _ from if_neg hn]
      · have ha' := ha
        simp only [State.matchA, countTick_stepArmed, countTick_cnt, countTick_ocrA, Bool.not_eq_true,
          Bool.and_eq_false_iff] at ha'
        refine .inl ⟨?_, ?_, if_neg ha⟩
        · rcases ha' with h | h <;> simp [State.realFireNext, h]
        · rcases ha' with h | h <;> simp [State.wrapFireNext, h]
  · exact .inl ⟨by simpa using hr, if_neg hr⟩

/-- The TICK of a real fire is the count, the fire, and perhaps the tick service (R106, R112). -/
theorem tick_of_realFire {s : State} (h : s.realFireNext = true) :
    tick s = if s.tickServiceNext then cmpB (realFire (countTick s)) else realFire (countTick s) := by
  rcases tick_cases s with ⟨hr, _⟩ | ⟨_, u, e, ⟨hf, _⟩ | ⟨_, hf, _⟩ | ⟨_, _, rfl⟩⟩
  · simp [State.realFireNext, hr] at h
  · rw [h] at hf; cases hf
  · rw [h] at hf; cases hf
  · exact e

/-- The compare value of a real fire is the counter of its TICK, so it is in range. -/
theorem ocrA_lt_of_realFire {s : State} (h : s.realFireNext = true) : s.ocrA < s.cfg.range := by
  simp only [State.realFireNext, Bool.and_eq_true, beq_iff_eq] at h
  rw [← h.1.2]; exact Nat.mod_lt _ (range_pos _)

/-- The tick service touches nothing but its own three fields. -/
theorem tickService_same (b : Bool) (u : State) :
    let t := if b then cmpB u else u
    SameEngine u t ∧ SameAxes u t ∧ SameRing u t ∧ SameForeground u t ∧ t.cnt = u.cnt ∧ t.ocrA = u.ocrA ∧
      t.stepArmed = u.stepArmed ∧ t.nst = u.nst ∧ t.anchor = u.anchor ∧ t.tickArmed = u.tickArmed ∧ t.slots = u.slots := by
  cases b <;> simp [SameEngine, SameAxes, SameRing, SameForeground]

/-- Without a real fire a TICK leaves the engine, the anchor, the positions and the ring alone. -/
theorem tick_noRealFire (s : State) (h : s.realFireNext = false) :
    SameEngine s (tick s) ∧ SameRing s (tick s) ∧ (tick s).anchor = s.anchor ∧ (tick s).pos = s.pos ∧
      (tick s).dirOut = s.dirOut ∧ (tick s).stepArmed = s.stepArmed := by
  rcases tick_cases s with ⟨_, e⟩ | ⟨_, u, e, ⟨_, _, rfl⟩ | ⟨_, _, rfl⟩ | ⟨hr, _, _⟩⟩
  · rw [e]; simp [SameEngine, SameRing]
  · rw [e]; cases s.tickServiceNext <;> simp [SameEngine, SameRing]
  · rw [e]; cases s.tickServiceNext <;> simp [SameEngine, SameRing]
  · rw [h] at hr; cases hr

/-- The step compare is set to match in `d` TICKs, and the real fire is due in `n`. -/
structure DueIn (s : State) (d n : Nat) : Prop where
  running : s.running = true
  armed : s.stepArmed = true
  cnt_lt : s.cnt < s.cfg.range
  d_pos : 1 ≤ d
  d_le : d ≤ s.cfg.range
  matches_at : s.ocrA = (s.cnt + d) % s.cfg.range
  due : (s.nst < s.cfg.range ∧ n = d) ∨
    (s.cfg.range ≤ s.nst ∧ n = d + (s.nst - s.cfg.range) ∧ s.cfg.counterGuard ≤ s.nst - s.cfg.range)

/-- SCHED sets it (R103, R108 item a). -/
theorem arm_dueIn {s : State} {delay : Nat} (wf : s.cfg.WellFormed) (hr : s.running = true)
    (hc : s.cnt < s.cfg.range) (ha : s.anchor = s.cnt) (h1 : 1 ≤ delay) :
    ∃ d, DueIn (s.arm delay) d delay := by
  have hg := WF.guard_le wf
  have hg1 := WF.guard_pos wf
  by_cases b1 : delay < s.cfg.range
  · exact ⟨delay, hr, rfl, hc, h1, b1.le, by simp [State.arm, b1, ha], .inl (by simp [State.arm, b1])⟩
  · by_cases b2 : delay < s.cfg.range + s.cfg.counterGuard
    · have hn : (s.arm delay).nst = delay + s.cfg.counterGuard := by
        simp only [State.arm, b1, b2, if_false, if_true]
      refine ⟨s.cfg.range - s.cfg.counterGuard, hr, rfl, hc, by omega, Nat.sub_le _ _, ?_, .inr ?_⟩
      · simp only [State.arm, b1, b2, if_false, if_true, ha]
        unfold subMod
        rw [Nat.mod_eq_of_lt (show s.cfg.counterGuard < s.cfg.range by omega)]
      · rw [hn]; simp only [State.arm_cfg]; omega
    · refine ⟨s.cfg.range, hr, rfl, hc, range_pos _, le_rfl, ?_, .inr ?_⟩
      · simp only [State.arm, b1, b2, if_false, ha, Nat.add_mod_right, Nat.mod_eq_of_lt hc]
      · simp only [State.arm, b1, b2, if_false]; omega

/-- The compare matches in the next TICK exactly when one TICK is left. -/
theorem matches_next_iff {r cnt d : Nat} (hc : cnt < r) (h1 : 1 ≤ d) (hd : d ≤ r) :
    (cnt + 1) % r = (cnt + d) % r ↔ d = 1 := by
  constructor
  · intro e
    rw [succ_mod_small hc] at e
    by_cases hdr : d = r
    · rw [hdr, Nat.add_mod_right, Nat.mod_eq_of_lt hc] at e
      split_ifs at e <;> omega
    · rw [add_mod_small hc (by omega)] at e
      split_ifs at e <;> omega
  · rintro rfl; rfl

/-- A real fire is next exactly when it is due in one TICK. -/
theorem DueIn.realFireNext_iff {s : State} {d n : Nat} (h : DueIn s d n) (wf : s.cfg.WellFormed) :
    s.realFireNext = true ↔ n = 1 := by
  have hg1 := WF.guard_pos wf
  have hm := matches_next_iff h.cnt_lt h.d_pos h.d_le
  have h1 := h.d_pos
  simp only [State.realFireNext, h.running, h.armed, h.matches_at, Bool.true_and, Bool.and_eq_true, beq_iff_eq,
    decide_eq_true_eq, hm]
  rcases h.due with ⟨hn, rfl⟩ | ⟨hn, rfl, hg⟩ <;> omega

/-- A wrap fire is next exactly when the compare matches with more than a counter range to go. -/
theorem DueIn.wrapFireNext_iff {s : State} {d n : Nat} (h : DueIn s d n) :
    s.wrapFireNext = true ↔ d = 1 ∧ s.cfg.range ≤ s.nst := by
  have hm := matches_next_iff h.cnt_lt h.d_pos h.d_le
  simp only [State.wrapFireNext, h.running, h.armed, h.matches_at, Bool.true_and, Bool.and_eq_true, beq_iff_eq,
    decide_eq_true_eq, hm]

/-- One TICK that is no real fire brings the real fire one TICK nearer. -/
theorem DueIn.tick {s : State} {d n : Nat} (h : DueIn s d n) (wf : s.cfg.WellFormed) (hn : n ≠ 1) :
    ∃ d', DueIn (tick s) d' (n - 1) ∧
      (s.wrapFireNext = false → d' = d - 1 ∧ (Machine.tick s).nst = s.nst) ∧
      (s.wrapFireNext = true → d = 1 ∧
        (s.nst - s.cfg.range < s.cfg.range → (Machine.tick s).nst = s.nst - s.cfg.range) ∧
        (s.cfg.range ≤ s.nst - s.cfg.range → s.cfg.range ≤ (Machine.tick s).nst)) := by
  have hg1 := WF.guard_pos wf
  have hg := WF.guard_le wf
  have h1 := h.d_pos
  have hdl := h.d_le
  have hc := h.cnt_lt
  have hrp := range_pos s.cfg
  have hnf : s.realFireNext = false := by
    have := h.realFireNext_iff wf
    cases hx : s.realFireNext <;> simp_all
  rcases tick_cases s with ⟨hrun, _⟩ | ⟨_, u, e, hu⟩
  · rw [h.running] at hrun; cases hrun
  · obtain ⟨-, -, -, ⟨cf, -, -, crun, -⟩, ccnt, cocr, carm, cnst, -⟩ := tickService_same s.tickServiceNext u
    rw [← e] at cf crun ccnt cocr carm cnst
    rcases hu with ⟨_, hw, rfl⟩ | ⟨hw, _, rfl⟩ | ⟨hrf, _, _⟩
    · have hd1 : d ≠ 1 := by
        intro hd1
        rcases h.due with ⟨hx, hy⟩ | ⟨hx, _⟩
        · exact hn (by omega)
        · have := h.wrapFireNext_iff.2 ⟨hd1, hx⟩; rw [hw] at this; cases this
      refine ⟨d - 1, ⟨by rw [crun]; exact h.running, by rw [carm]; exact h.armed, ?_, by omega, ?_, ?_, ?_⟩,
        fun _ => ⟨rfl, by rw [cnst]; rfl⟩, fun x => absurd x (by simp [hw])⟩
      · rw [ccnt, cf]; exact Nat.mod_lt _ hrp
      · rw [cf]; simp only [countTick_cfg]; omega
      · rw [cocr, ccnt, cf]
        simp only [countTick_ocrA, countTick_cnt, countTick_cfg, h.matches_at]
        rw [Nat.mod_add_mod]; congr 1; omega
      · rw [cf, cnst]; simp only [countTick_cfg, countTick_nst]
        rcases h.due with ⟨hx, hy⟩ | ⟨hx, hy, hz⟩
        · exact .inl ⟨hx, by omega⟩
        · exact .inr ⟨hx, by omega, hz⟩
    · obtain ⟨hd1, hge⟩ := h.wrapFireNext_iff.1 hw
      subst hd1
      obtain ⟨hx, hy⟩ | ⟨_, hy, hz⟩ := h.due
      · omega
      have hocr : s.ocrA < s.cfg.range := by rw [h.matches_at]; exact Nat.mod_lt _ hrp
      have hcnt : (Machine.tick s).cnt = s.ocrA := by rw [ccnt, h.matches_at]; rfl
      have hcf : (Machine.tick s).cfg = s.cfg := by rw [cf]; rfl
      have hrun : (Machine.tick s).running = true := by rw [crun]; exact h.running
      have harm : (Machine.tick s).stepArmed = true := by rw [carm]; exact h.armed
      by_cases b1 : s.nst - s.cfg.range < s.cfg.range
      · have hnst : (Machine.tick s).nst = s.nst - s.cfg.range := by
          rw [cnst]; simp only [wrapFire, countTick_nst, countTick_cfg, b1, if_true]
        refine ⟨s.nst - s.cfg.range, ⟨hrun, harm, by rw [hcnt, hcf]; exact hocr, by omega,
          by rw [hcf]; omega, ?_, ?_⟩, fun x => absurd x (by simp [hw]), fun _ => ⟨rfl, fun _ => hnst, fun x => by omega⟩⟩
        · rw [cocr, hcnt, hcf]; simp only [wrapFire, countTick_nst, countTick_cfg, countTick_ocrA, b1, if_true]
        · rw [hcf, hnst]; exact .inl ⟨b1, by omega⟩
      · by_cases b2 : s.nst - s.cfg.range < s.cfg.range + s.cfg.counterGuard
        · have hnst : (Machine.tick s).nst = s.nst - s.cfg.range + s.cfg.counterGuard := by
            rw [cnst]; simp only [wrapFire, countTick_nst, countTick_cfg, b1, b2, if_true, if_false]
          refine ⟨s.cfg.range - s.cfg.counterGuard, ⟨hrun, harm, by rw [hcnt, hcf]; exact hocr, by omega,
            by rw [hcf]; omega, ?_, ?_⟩, fun x => absurd x (by simp [hw]),
            fun _ => ⟨rfl, fun x => by omega, fun _ => by omega⟩⟩
          · rw [cocr, hcnt, hcf]
            simp only [wrapFire, countTick_nst, countTick_cfg, countTick_ocrA, b1, b2, if_true, if_false]
            unfold subMod
            rw [Nat.mod_eq_of_lt (show s.cfg.counterGuard < s.cfg.range by omega)]
          · rw [hcf, hnst]; exact .inr ⟨by omega, by omega, by omega⟩
        · have hnst : (Machine.tick s).nst = s.nst - s.cfg.range := by
            rw [cnst]; simp only [wrapFire, countTick_nst, countTick_cfg, b1, b2, if_false]
          refine ⟨s.cfg.range, ⟨hrun, harm, by rw [hcnt, hcf]; exact hocr, hrp,
            by rw [hcf], ?_, ?_⟩, fun x => absurd x (by simp [hw]),
            fun _ => ⟨rfl, fun x => by omega, fun _ => by omega⟩⟩
          · rw [cocr, hcnt, hcf]
            simp only [wrapFire, countTick_nst, countTick_cfg, countTick_ocrA, b1, b2, if_false, Nat.add_mod_right]
            exact (Nat.mod_eq_of_lt hocr).symm
          · rw [hcf, hnst]; exact .inr ⟨by omega, by omega, by omega⟩
    · rw [hnf] at hrf; cases hrf

end Sys2Proof.Machine
end

