-- ==== Sys2Proof/Laws/PerInstr.lean ====
section
/-! SUPPORT. The per-instruction family RowMatch: the command word of an instruction selects the instruction's own row of
the opcode map and no other (30_encoding.md R82). -/

namespace Sys2Proof.Laws.RowMatch

/-- The encoded word selects its own row, and no other row of the map. -/
def Statement (i : Instr) : Prop := ∀ r ∈ opcodeMap, r.selects (encode i) = true ↔ r = i.row

theorem nop : Statement .nop := by unfold Statement; decide

theorem init : Statement .init := by unfold Statement; decide

theorem push : Statement .push := by unfold Statement; decide

/-- The operand bits lie outside the mask of the row: every other row fixes `op` to another value. -/
theorem pushHome (esmask : BitVec 16) (sot : Bool) : Statement (.pushHome esmask sot) := by
  have hop : (encode (.pushHome esmask sot)).extractLsb' 0 8 = 0x03#8 := by
    apply BitVec.eq_of_getLsbD_eq
    intro i hi
    simp only [encode, BitVec.getLsbD_extractLsb', BitVec.getLsbD_append, Nat.zero_add, hi, if_true, decide_true,
      Bool.true_and]
  have hself : rowPushHome.selects (encode (.pushHome esmask sot)) = true := by
    simp only [OpcodeRow.selects, rowPushHome, encode, beq_iff_eq]
    apply BitVec.eq_of_getLsbD_eq
    intro i hi
    simp only [BitVec.getLsbD_and, BitVec.getLsbD_append]
    interval_cases i <;> simp
  have hno : ∀ p : Word, p.extractLsb' 0 8 ≠ 0x03#8 →
      (⟨p, 0xFFFFFFFF⟩ : OpcodeRow).selects (encode (.pushHome esmask sot)) = false := by
    intro p hp
    simp only [OpcodeRow.selects, beq_eq_false_iff_ne, ne_eq]
    intro e
    apply hp
    rw [← e, show (0xFFFFFFFF : Word) = BitVec.allOnes 32 from rfl, BitVec.and_allOnes, hop]
  intro r hr
  simp only [opcodeMap, List.mem_cons, List.not_mem_nil, or_false] at hr
  rcases hr with rfl | rfl | rfl | rfl | rfl | rfl
  · rw [show rowNop = ⟨0x00000000, 0xFFFFFFFF⟩ from rfl, hno _ (by decide)]; simp [Instr.row, rowPushHome]
  · rw [show rowInit = ⟨0x00000001, 0xFFFFFFFF⟩ from rfl, hno _ (by decide)]; simp [Instr.row, rowPushHome]
  · rw [show rowPush = ⟨0x00000002, 0xFFFFFFFF⟩ from rfl, hno _ (by decide)]; simp [Instr.row, rowPushHome]
  · simp [hself, Instr.row]
  · rw [show rowEstop = ⟨0x00000004, 0xFFFFFFFF⟩ from rfl, hno _ (by decide)]; simp [Instr.row, rowPushHome]
  · rw [show rowSetpos = ⟨0x00000005, 0xFFFFFFFF⟩ from rfl, hno _ (by decide)]; simp [Instr.row, rowPushHome]

theorem estop : Statement .estop := by unfold Statement; decide

theorem setpos : Statement .setpos := by unfold Statement; decide

end Sys2Proof.Laws.RowMatch
end

