-- ==== Sys2Proof/Laws/Script.lean ====
section
/-! SUPPORT. When the host's constants give a homing sequence (46_homing_protocol.md R200, R207), and what the words it
stages hold where they fit (R203, R205). -/

namespace Sys2Proof.Machine

theorem stagedNat_toNat {n : Nat} (h : n < 2 ^ 32) : (stagedNat n).toNat = n := by
  simp only [stagedNat, if_pos h, word, BitVec.toNat_ofNat]; exact Nat.mod_eq_of_lt h

theorem stagedInt_toInt {n : Int} (h1 : -2 ^ 31 ≤ n) (h2 : n < 2 ^ 31) : (stagedInt n).toInt = n := by
  rw [stagedInt, if_pos ⟨h1, h2⟩, BitVec.toInt_ofInt]
  exact Int.bmod_eq_of_le (by omega) (by omega)

/-- Homing takes constants that build and the coordinate of the endstop meant, and nothing else. -/
theorem homing_isSome_iff (k : AxisConstants) (axis : Fin 8) (toMax : Bool) :
    (k.homing axis toMax).isSome = true ↔
      k.buildable = true ∧ (if toMax then k.max else k.min).isSome = true := by
  unfold AxisConstants.homing
  by_cases hb : k.buildable = true
  · have h := hb
    simp only [AxisConstants.buildable, Bool.and_eq_true, Option.isSome_iff_exists] at h
    obtain ⟨⟨⟨f, hf⟩, ⟨e, he⟩⟩, -⟩ := h
    simp only [hb, he, hf, if_true, true_and]
    cases (if toMax then k.max else k.min) <;> simp
  · simp [hb]

/-- A host with a ConfigInvalid axis has no homing program, whichever axes are meant (R207). -/
theorem homingProgram_of_configInvalid {c : Config} {ks : Vector AxisConstants 8} {a : Fin 8} (ha : a.val < c.nAxes)
    (hk : ks[a].buildable = false) (targets : List (Fin 8 × Bool)) : homingProgram c ks targets = none := by
  unfold homingProgram
  rw [if_neg]
  simp only [hostBuilds, presentAxes, List.all_eq_true, List.mem_filter, List.mem_finRange, true_and, decide_eq_true_eq]
  intro h
  rw [h a ha] at hk
  cases hk

end Sys2Proof.Machine
end

