-- ==== Sys2Proof/Laws/Turns.lean ====
section
/-! SUPPORT. Who moves and what a turn leaves to the model's own lists: one step is one turn on a state that differs in
`schedule` only, and no turn writes the schedule (logs 3, 5). -/

namespace Sys2Proof.Machine

/-- Choosing who moves takes a turn off the schedule and does nothing else. -/
theorem nextAgent_frame (s : State) : (nextAgent s).2 = { s with schedule := (nextAgent s).2.schedule } := by
  unfold nextAgent; split <;> rfl

/-- The agent and the schedule left, in the cases of the schedule's first entry. -/
theorem nextAgent_nil {s : State} (h : s.schedule = []) :
    nextAgent s = (if s.tickBusy then .tickBody else .counter, s) := by simp [nextAgent, h]

theorem nextAgent_agent {s : State} {g : Agent} {rest : List Turn} (h : s.schedule = .agent g :: rest) :
    nextAgent s = (g, { s with schedule := rest }) := by simp [nextAgent, h]

theorem nextAgent_hostStatement {s : State} {rest : List Turn} (h : s.schedule = .hostStatement :: rest) :
    nextAgent s = (.host, { s with schedule := hostStatementRest s rest }) := by simp [nextAgent, h]

/-- A step that answers is one turn of `nextTurn` on the state with that turn taken off. -/
theorem step_turn {s t : State} (h : step s = .next t) : s.cfg.WellFormed ∧ turn s.nextTurn (nextAgent s).2 = .next t := by
  unfold step at h
  split at h
  · next wf => exact ⟨wf, h⟩
  · cases h

theorem pushCommand_schedule (home : Bool) (esmask : BitVec 16) (escond : Bool) (s : State) :
    (pushCommand home esmask escond s).schedule = s.schedule := by
  unfold pushCommand
  repeat' split
  all_goals simp

theorem exec_schedule {i : Instr} {s t : State} (h : exec i s = .next t) : t.schedule = s.schedule := by
  cases i <;> cases h
  case nop => rfl
  case init => split <;> rfl
  case push => exact pushCommand_schedule _ _ _ s
  case pushHome m c => exact pushCommand_schedule _ m c s
  case estop => rfl
  case setpos => split <;> rfl

theorem hostWrite_schedule {a : BitVec 6} {v : Word} {s t : State} (h : hostWrite a v s = .next t) :
    t.schedule = s.schedule := by
  unfold hostWrite at h
  split at h
  · unfold command at h
    split at h
    · exact exec_schedule h
    · cases h; rfl
  · split at h <;> (cases h; rfl)

@[simp] theorem hostRead_schedule (a : BitVec 6) (s : State) : (hostRead a s).schedule = s.schedule := by
  unfold hostRead; split <;> rfl

/-- No turn writes the schedule. -/
theorem turn_schedule {g : Agent} {s t : State} (h : turn g s = .next t) : t.schedule = s.schedule := by
  cases g with
  | host =>
    simp only [turn, hostTurn] at h
    split at h
    · cases h; rfl
    · exact (hostWrite_schedule h :)
    · cases h; simp
    · exact (hostWrite_schedule h :)
    · exact (hostWrite_schedule h :)
    · cases h; simp
    · cases h; simp
    · cases h; rfl
  | counter => cases h; simp
  | tickBody => cases h; unfold tickBodyEnd; split <;> rfl
  | environment b v => cases h; rfl
  | reset => cases h; rfl

end Sys2Proof.Machine
end

