-- ==== Sys2Proof/Tests/Slice0.lean ====
section
/-! SUPPORT. Tests of one operation each, expected values from 95_test_vectors.md or a rule (named at each), and the witnesses:
for every statement with hypotheses a concrete state and operands that meet them, clause by clause. -/

namespace Sys2Proof.Tests

open Sys2Proof Sys2Proof.Machine

/-! ### Helpers -/

/-- The outcome is a next state that passes a check. -/
def answers (o : Host.Outcome State Fault Refusal) (p : State → Bool) : Bool :=
  match o with
  | .next t => p t
  | .fault _ => false
  | .refused _ => false

/-- The reset state with every endstop input open, as the vectors assume. -/
def quiet : State := { State.reset with pins := Vector.replicate 16 (some false) }

/-- After INIT at `cnt = 0`. -/
def ready : State := { quiet with running := true, tickArmed := true, ocrB := 32000, drvEn := true }

/-- A Move as the vectors write it: dir, T, rate, A, D, c0 and the three deltas. -/
def mk (dir T rate A D c0 x y z : Nat) : Move where
  dir := BitVec.ofNat 8 dir
  dwell := false
  totalSteps := word T
  nominalRate := word rate
  accelRate := 0
  decelRate := 0
  accelUntilStep := word A
  decelFromStep := word D
  c0 := word c0
  delta := #v[word x, word y, word z, 0, 0, 0, 0, 0]
  esmask := 0
  escond := false

/-- A dwell of `c0` ticks. -/
def dwellOf (c0 : Nat) : Move := { mk 0 0 0 0 0 c0 0 0 0 with dwell := true }

/-- The Move of program P1. -/
def moveP1 : Move := mk 0 4 800 0 4 0 4 0 0

/-- Program P1 just after its PUSH at tick 10 (95_test_vectors.md P1). -/
def liveP1 : State :=
  { ready with
    cnt := 10, mv := encodeMove moveP1, slots := [(0, moveP1)], tail := 1, live := true,
    bres := Vector.replicate 8 2, cur := 20000, cCruise := 20000, phase := .cruise, anchor := 10, ocrA := 20010,
    nst := 20000, stepArmed := true }

/-- The same with the Move of program P2 queued behind it (it turns X to negative). -/
def queuedP1 : State := { liveP1 with slots := [(0, moveP1), (1, mk 1 4 4000 0 4 0 3 4 0)], tail := 2 }

/-- One TICK before the first step of P1. -/
def aboutToStep : State := { liveP1 with cnt := 20009 }

/-- One TICK before the last step of P1, a Move with another direction waiting. -/
def aboutToTurn : State := { queuedP1 with cnt := 14473, ocrA := 14474, anchor := 60010, stepNo := 3 }

/-- Program P4 with the dwell live, `nst` and `ocr_a` as given. -/
def dwelling (nst ocrA : Nat) : State :=
  { ready with
    slots := [(0, dwellOf 197842)], tail := 1, live := true, cur := 197842, nst := nst, ocrA := ocrA,
    stepArmed := true }

/-- Program P2 in its no-op interval, one TICK before its end. -/
def inNoop : State :=
  { ready with
    cnt := 399, slots := [(0, mk 1 4 4000 0 4 0 3 4 0)], tail := 1, live := true, bres := Vector.replicate 8 2,
    cur := 4000, cCruise := 4000, phase := .cruise, dsp := true, dirOut := 1, ocrA := 400, nst := 400,
    stepArmed := true }

/-- After ESTOP in program P1. -/
def stopped : State :=
  { liveP1 with
    stepArmed := false, tickArmed := false, nst := 0, head := 1, live := false, phase := .none, drvEn := false,
    estopped := true }

/-- A full ring of one entry. -/
def full1 : State := { liveP1 with cfg := { Config.reference with queueCapacity := 1 } }

/-! ### Well-formedness: an ill-formed configuration for each constraint (00_scope.md R9, R10) -/

theorem test_reference_wellFormed : Config.reference.WellFormed := by decide
theorem test_no_axis_refused : ¬ { Config.reference with nAxes := 0 }.WellFormed := by decide
theorem test_nine_axes_refused : ¬ { Config.reference with nAxes := 9 }.WellFormed := by decide
theorem test_15_bits_refused : ¬ { Config.reference with counterBits := 15 }.WellFormed := by decide
theorem test_33_bits_refused : ¬ { Config.reference with counterBits := 33 }.WellFormed := by decide
theorem test_no_frequency_refused : ¬ { Config.reference with cpuFreq := 0 }.WellFormed := by decide
theorem test_tick_time_range_refused : ¬ { Config.reference with tickTime := 65536 }.WellFormed := by decide
theorem test_no_capacity_refused : ¬ { Config.reference with queueCapacity := 0 }.WellFormed := by decide
theorem test_guard_over_half_refused : ¬ { Config.reference with counterGuard := 32769 }.WellFormed := by decide
theorem test_min_step_range_refused : ¬ { Config.reference with minStepTicks := 65536 }.WellFormed := by decide
/-- "DIR_SETUP_TICKS: natural ≥ 0" (R9) has no upper bound. -/
theorem test_dir_setup_unbounded : { Config.reference with dirSetupTicks := 2 ^ 32 }.WellFormed := by decide
theorem test_pulse_min_step_refused : ¬ { Config.reference with stepPulseTicks := 400 }.WellFormed := by decide
theorem test_no_debounce_refused : ¬ { Config.reference with debounceSamples := 0 }.WellFormed := by decide

/-- `Instr` has no ill-formed term: its field types are exact (R81, R83). -/
theorem test_every_instr_wellFormed (i : Instr) : i.wellFormed = true := by cases i <;> rfl

/-! ### Decoding: words written out from R81, R82, and the reserved words of V44-1 -/

theorem test_decode_nop : decodeTableWord 32 0b00000000000000000000000000000000 = some .nop := by decide
theorem test_decode_init : decodeTableWord 32 0b00000000000000000000000000000001 = some .init := by decide
theorem test_decode_push : decodeTableWord 32 0b00000000000000000000000000000010 = some .push := by decide
theorem test_decode_pushHome :
    decodeTableWord 32 0b00000001000000000000000100000011 = some (.pushHome 0x0001 true) := by decide
/-- Bit 8 is `esmask[0]`, bit 23 `esmask[15]`, bit 24 `sot`. -/
theorem test_decode_pushHome_edges :
    decodeTableWord 32 0b00000000100000000000000000000011 = some (.pushHome 0x8000 false) := by decide
theorem test_decode_estop : decodeTableWord 32 0b00000000000000000000000000000100 = some .estop := by decide
theorem test_decode_setpos : decodeTableWord 32 0b00000000000000000000000000000101 = some .setpos := by decide
theorem test_reserved_opcode : decodeOrReject 0x00000006 = .error .reservedOpcode := by rfl
theorem test_reserved_opcode_ff : decodeOrReject 0x000000FF = .error .reservedOpcode := by rfl
theorem test_reserved_bit25 : decodeOrReject 0x02000003 = .error .reservedBits := by rfl
theorem test_operand_bits_on_push : decodeOrReject 0x00000102 = .error .operandBits := by rfl
theorem test_encode_pushHome : encode (.pushHome 0xFFFF true) = 0x01FFFF03 := by decide
/-- Four bytes make the word, the first the least significant (R64); the rest of the list comes back. -/
theorem test_decodeBytes : decodeBytes [0x03, 0x01, 0x00, 0x01, 0xAA] = some (.pushHome 0x0001 true, [0xAA]) := by
  decide
theorem test_decodeBytes_short : decodeBytes [0x03, 0x01, 0x00] = none := by decide

/-- `withFetchWord` makes the next step run the word. -/
theorem test_fetch_init : answers (step (State.reset.withFetchWord 32 1))
    (fun t => t.running && t.ocrB == 32000 && t.statusWord == 0x000004A9) = true := by decide
theorem test_fetch_pushHome : answers (step (State.reset.withFetchWord 32 0x01000103))
    (fun t => t.result == .notInit && t.statusWord == 0x00000028) = true := by decide
/-- A configuration with no axis is refused by name (log 2). -/
theorem test_config_refused : step { quiet with cfg := { Config.reference with nAxes := 0 } } =
    .refused .configInvalid := by rfl

/-! ### Commands (V44-1 to V44-3, P1, V43-2, V43-3, P6) -/

theorem test_nop : answers (exec .nop { quiet with result := .badMove })
    (fun t => t.result == .ok && t.statusWord == 0x00000028) = true := by decide
theorem test_init : answers (exec .init quiet) (fun t => t.result == .ok && t.statusWord == 0x000004A9) = true := by
  decide
theorem test_init_busy : answers (exec .init liveP1) (fun t => t.result == .busy && t.live && t.nst == 20000) = true := by
  decide
theorem test_push_p1 : answers (exec .push { ready with cnt := 10, mv := encodeMove moveP1 })
    (fun t => t.statusWord == 0x000024C5 && t.anchor == 10 && t.ocrA == 20010 && t.nst == 20000 && t.cur == 20000 &&
      t.bres == Vector.replicate 8 2 && t.tail == 1 && t.liveMove.totalSteps == 4 && t.result == .ok) = true := by decide
theorem test_push_not_init_first : answers (exec .push { quiet with estopped := true })
    (fun t => t.result == .notInit) = true := by decide
theorem test_pushHome_p5 : answers (exec (.pushHome 0x0001 true)
      { ready with cnt := 100, mv := encodeMove (mk 1 80000 8000 0 80000 0 80000 0 0) })
    (fun t => t.dsp && t.dirOut == 1 && t.cur == 2000 && t.ocrA == 500 && t.liveMove.esmask == 1 && t.liveMove.escond &&
      t.db[0].level == false && t.result == .ok) = true := by decide
theorem test_pushHome_absent_axis : answers (exec (.pushHome 0x0040 true) { ready with mv := encodeMove moveP1 })
    (fun t => t.result == .badMove && t.tail == 0) = true := by decide
theorem test_estop_p6 : answers (exec .estop { liveP1 with stepOut := 1, pulseTimer := 27, tickBusy := true })
    (fun t => t.statusWord == 0x0000012B && t.qlen == 0 && t.head == 1 && t.nst == 0 && t.ocrA == 20010 &&
      t.pulseTimer == 0 && t.result == .ok) = true := by decide
theorem test_setpos_negative : answers (exec .setpos { quiet with mv := quiet.mv.set 8 0xFFFFFF38 })
    (fun t => t.pos[0].toInt == -200 && t.pos[3] == 0 && t.result == .ok) = true := by decide
theorem test_setpos_not_idle : answers (exec .setpos liveP1) (fun t => t.result == .notIdle && t.pos[0] == 0) = true := by
  decide

/-! VALID (V43-2) -/

theorem test_valid_accepts : valid Config.reference (encodeMove (mk 0 4 4000 0 4 0 3 4 0)) false 0 = true := by decide
theorem test_valid_not_max : valid Config.reference (encodeMove (mk 0 5 4000 0 4 0 3 4 0)) false 0 = false := by decide
theorem test_valid_absent_dir : valid Config.reference (encodeMove (mk 8 4 4000 0 4 0 3 4 0)) false 0 = false := by decide
theorem test_valid_dwell_zero : valid Config.reference (encodeMove (dwellOf 0)) false 0 = true := by decide
theorem test_valid_home_mask : valid Config.reference (encodeMove moveP1) true 0x3F = true := by decide
theorem test_valid_home_no_dwell : valid Config.reference (encodeMove (dwellOf 0)) true 0 = false := by decide

/-! ### The counter, SCHED and the fires (V40-4, R113, P4) -/

theorem test_short_request : (sched 199 true ready).1 = .tooShort ∧ (sched 200 true ready).1 = .scheduled := by decide
theorem test_short_request_late : (sched 249 true { ready with cnt := 50 }).1 = .tooShort ∧
    (sched 250 true { ready with cnt := 50 }).1 = .scheduled := by decide
/-- P4's second wrap fire: the rest is in the guard band. -/
theorem test_wrap_fire_guard : (tick { dwelling 132306 0 with cnt := 65535 }).ocrA = 55536 ∧
    (tick { dwelling 132306 0 with cnt := 65535 }).nst = 76770 := by decide
/-- P4's third wrap fire. -/
theorem test_wrap_fire_last : (tick { dwelling 76770 55536 with cnt := 55535 }).ocrA = 1234 ∧
    (tick { dwelling 76770 55536 with cnt := 55535 }).nst = 11234 := by decide
theorem test_dwell_completes : (tick { dwelling 1234 1234 with cnt := 1233 }).live = false ∧
    (tick { dwelling 1234 1234 with cnt := 1233 }).head = 1 := by decide
/-- V40-3: the step service first, then the tick service. -/
theorem test_same_tick : (tick { liveP1 with cnt := 31999, ocrA := 32000, anchor := 12000 }).ocrB = 64000 ∧
    (tick { liveP1 with cnt := 31999, ocrA := 32000, anchor := 12000 }).anchor = 32000 := by decide
/-- P1, step 1. -/
theorem test_step_p1 : (tick aboutToStep).pos[0] = 1 ∧ (tick aboutToStep).ocrA = 40010 ∧
    (tick aboutToStep).stepOut = 1 ∧ (tick aboutToStep).pulseTimer = 32 := by decide
/-- P2: the no-op fire makes no step and schedules the first interval. -/
theorem test_noop_fire_p2 : (tick inNoop).dsp = false ∧ (tick inNoop).pos[0] = 0 ∧ (tick inNoop).ocrA = 4400 := by decide

/-- R137, R259: a DIR_SETUP_TICKS beyond 32 bits is kept whole (R9, log 10). -/
theorem test_long_dir_setup :
    let t := tick { aboutToTurn with cfg := { Config.reference with dirSetupTicks := 2 ^ 32 + 5 } }
    t.dsp = true ∧ t.dirOut = 1 ∧ t.nst = 2 ^ 32 + 5 ∧ t.ocrA = t.cnt := by decide

/-! ### The profiler and the engine (V41, V42) -/

theorem test_first_decel : (firstInterval (mk 0 3 4000 0 0 0 3 0 0) ready).1.toNat = 4727 := by decide
theorem test_saturation : (nextInterval { liveP1 with
    slots := [(0, mk 0 2 1 0 0 0 2 0 0)], cur := 4000000000, stepNo := 1 }).1.toNat = 4294967295 := by decide
theorem test_clamp_in_ramp : (nextInterval { liveP1 with
    slots := [(0, mk 0 6 100000 6 6 1000 6 0 0)], cur := 467, stepNo := 3 }).1.toNat = 400 := by decide
/-- V42-1, steps 1 and 2. -/
theorem test_bresenham : let m := mk 0 5 4000 0 5 0 1 5 2
    let t := stepPulses m { ready with bres := Vector.replicate 8 2 }
    t.stepOut = 0b010 ∧ t.bres[0] = 3 ∧ t.bres[1] = 2 ∧ t.bres[2] = 4 ∧ (stepPulses m t).stepOut = 0b110 := by decide
/-- V45-2, steps 6 and 7 with three samples. -/
theorem test_debounce : dbSample { Config.reference with debounceSamples := 3 } true ⟨false, 1⟩ = (⟨false, 2⟩, false) ∧
    dbSample { Config.reference with debounceSamples := 3 } true ⟨false, 2⟩ = (⟨true, 0⟩, true) := by decide
/-- P5, tick 10500: a hit ends the move. -/
theorem test_hit : (stepEndstops { mk 1 80000 8000 0 80000 0 80000 0 0 with esmask := 1, escond := true }
    { ready with pins := Vector.replicate 16 (some true), stepNo := 4 }).stepNo = 80000 := by decide

/-! ### The host port (R61 to R65) -/

theorem test_read_reserved : liveP1.readReg 0x11 = 0 ∧ liveP1.readReg 0x2F = 0 ∧ liveP1.readReg 0x00 = 0 := by decide
theorem test_read_total_steps : liveP1.readReg Port.totalSteps = 4 ∧ stopped.readReg Port.totalSteps = 0 := by decide
theorem test_write_mv15 : answers (hostWrite 0x3F 7 quiet) (fun t => t.mv[15] == 7 && t.mv[0] == 0) = true := by decide
theorem test_write_read_only : answers (hostWrite Port.cnt 7 quiet) (fun t => t.cnt == 0 && t.mv == quiet.mv) = true := by
  decide
theorem test_bus : busIndex 252 4 = some 0x3F ∧ busIndex 256 4 = none ∧ busIndex 2 4 = none ∧ busIndex 4 2 = none := by
  decide

/-! ### Scripts, the loops and the homing constants (30_encoding.md R93, 40_timer_scheduler.md R110, P5, R207) -/

theorem test_script_turns : ([ScriptStmt.waitIdle, .ticks 2, .bodyEnd].flatMap (ScriptStmt.turns Config.reference)) =
    [.hostStatement, .agent .counter, .agent .counter, .agent .tickBody] := by decide
/-- WAIT_IDLE with a move live lets one TICK pass and looks again. -/
theorem test_waitIdle_goes_round : answers (step (liveP1.withScript [.waitIdle]))
    (fun t => t.program == [.waitIdle] && t.schedule == [.agent .counter, .hostStatement]) = true := by decide
/-- P7's third PUSH as an ENQ: RESULT 1, so the PUSH is written again after a TICK. -/
theorem test_enq_goes_round :
    answers (step { full1 with program := [.retryCheck 2], schedule := [.hostStatement], result := .queueFullBlocked })
      (fun t => t.program == [.retryPush 2] && t.schedule == [.agent .counter, .hostStatement]) = true := by decide
/-- With no turn left a running tick body ends before the counter moves on. -/
theorem test_tick_body_ends : answers (step { ready with tickBusy := true })
    (fun t => !t.tickBusy && t.cnt == 0) = true := by decide
/-- P5's axis X: `search_fast` 6000 mm/min = 8000 steps/s, `search_slow` 133 steps/s. -/
theorem test_homing_rates : ((AxisConstants.mk 80 6000 1000 (some 5000) (some 100) (some (-2500)) none false).homing 0
    false).map (fun h => (fastRate h, slowRate h, searchFastExceeds h)) = some (8000, 133, true) := by decide
/-- P5: MIN -2500 µm is staged as -200 steps, and the positions at the two ends of the word fit it. -/
theorem test_staged_coordinate : stagedInt (homingCoordinate ⟨0, false, 80, 1000, 5000, 100, -2500⟩) = 0xFFFFFF38 ∧
    stagedInt (-2 ^ 31) = 0x80000000 ∧ stagedInt (2 ^ 31 - 1) = 0x7FFFFFFF := by decide
/-- P5 as the host's program: it begins with the look at ES and ends with CMD SETPOS. -/
theorem test_homing_program : ((homingProgram Config.reference
      (Vector.replicate 8 (AxisConstants.mk 80 6000 1000 (some 5000) (some 100) (some (-2500)) none false))
      [(0, false)]).map fun p => (p.head?, p.getLast?)) = some (some (.rd Port.es), some (.wr Port.cmd 5)) := by decide
/-- R207: a maximum endstop asks for MAX, also when the axis is homed to its minimum and MIN is there. -/
theorem test_config_invalid :
    (AxisConstants.mk 80 6000 1000 (some 5000) (some 100) (some (-2500)) none true).homing 0 false = none := by decide
/-- R207: the last axis of three is ConfigInvalid and the whole host is not built; an axis that does not exist is not asked. -/
theorem test_build_refused : let good := AxisConstants.mk 80 6000 1000 (some 5000) (some 100) (some (-2500)) none false
    hostBuilds Config.reference ((Vector.replicate 8 good).set 2 { good with searchFeedrate := none }) = false ∧
    hostBuilds Config.reference ((Vector.replicate 8 good).set 3 { good with searchFeedrate := none }) = true := by decide

/-! ### Witnesses: the invariant -/

theorem witness_inv_reset : Inv State.reset := ⟨by decide, by decide, by decide, by decide, by decide, by decide, by decide, by decide⟩
theorem witness_inv_ready : Inv ready := ⟨by decide, by decide, by decide, by decide, by decide, by decide, by decide, by decide⟩
theorem witness_inv_liveP1 : Inv liveP1 := ⟨by decide, by decide, by decide, by decide, by decide, by decide, by decide, by decide⟩
theorem witness_inv_queuedP1 : Inv queuedP1 := ⟨by decide, by decide, by decide, by decide, by decide, by decide, by decide, by decide⟩
theorem witness_inv_aboutToStep : Inv aboutToStep := ⟨by decide, by decide, by decide, by decide, by decide, by decide, by decide, by decide⟩
theorem witness_inv_aboutToTurn : Inv aboutToTurn := ⟨by decide, by decide, by decide, by decide, by decide, by decide, by decide, by decide⟩
theorem witness_inv_inNoop : Inv inNoop := ⟨by decide, by decide, by decide, by decide, by decide, by decide, by decide, by decide⟩
theorem witness_inv_stopped : Inv stopped := ⟨by decide, by decide, by decide, by decide, by decide, by decide, by decide, by decide⟩
theorem witness_inv_full1 : Inv full1 := ⟨by decide, by decide, by decide, by decide, by decide, by decide, by decide, by decide⟩

/-! ### Witnesses: the hypotheses of the other statements, clause by clause -/

theorem witness_DecodeSelectsTheRow : (∃ r ∈ opcodeMap, ∃ q ∈ opcodeMap,
    r.selects 0x01FFFF03 = true ∧ q.selects 0x01FFFF03 = true) ∧ ∀ r ∈ opcodeMap, r.selects 0x02000003 = false := by decide
theorem witness_PushHomeOperandsAreTheirBits : decode 0x00000003 = some (.pushHome 0 false) ∧
    decode 0x01FFFF03 = some (.pushHome 0xFFFF true) := by decide
/-- One word for each ground of R88, at its edges. -/
theorem witness_ReservedWordsAnswerBadCommand : decode 0x00000006 = none ∧ decode 0x000000FF = none ∧
    decode 0x02000003 = none ∧ decode 0x80000000 = none ∧ decode 0x00000105 = none ∧ decode 0x01000000 = none := by decide
theorem witness_DescriptorRoundTrip : (encodeMove moveP1)[0].extractLsb' 9 23 = 0 ∧
    (encodeMove (dwellOf 1))[0].extractLsb' 9 23 = 0 := by decide
theorem witness_StatusWordBits : liveP1.cfg.WellFormed ∧ full1.cfg.WellFormed := by decide
theorem witness_HostWriteReachesOnlyCmdAndStaging : (0x00 : BitVec 6).toNat = 0 ∧ (0x30 : BitVec 6).toNat = 0x30 + 0 ∧
    (0x3F : BitVec 6).toNat = 0x30 + 15 ∧ (0x2F : BitVec 6) ≠ 0x00 ∧ (0x2F : BitVec 6).toNat < 0x30 ∧
    (0x01 : BitVec 6) ≠ 0x00 ∧ (0x01 : BitVec 6).toNat < 0x30 ∧ ∃ j : Fin 16, j ≠ 0 := by decide
theorem witness_RegisterMapValues : 0x11 ≤ (0x11 : BitVec 6).toNat ∧ (0x17 : BitVec 6).toNat ≤ 0x17 ∧
    0x28 ≤ (0x28 : BitVec 6).toNat ∧ (0x2F : BitVec 6).toNat ≤ 0x2F ∧ (liveP1.cfg.WellFormed ∧
      ((liveP1.tail : Int) - liveP1.head) % (2 * liveP1.cfg.queueCapacity : Nat) < 2 ^ 32) ∧
    (let s := { liveP1 with head := 2 ^ 32 - 1, tail := 1, cfg := { Config.reference with queueCapacity := 2 ^ 31 } }
     s.cfg.WellFormed ∧ ((s.tail : Int) - s.head) % (2 * s.cfg.queueCapacity : Nat) < 2 ^ 32 ∧ s.head < 2 ^ 32 ∧
      s.tail < 2 ^ 32) ∧ liveP1.nst < 2 ^ 32 := by decide
/-- A step of the counter with one entry queued. -/
theorem witness_QueuedMovesAreImmutable : Inv aboutToStep ∧ step aboutToStep = .next (tick aboutToStep) ∧
    aboutToStep.nextTurn ≠ .reset ∧ 0 < aboutToStep.qlen := ⟨witness_inv_aboutToStep, rfl, by decide, by decide⟩
/-- A Move with steps (axis 2 the last, axis 3 absent), a dwell, and a watched Move. -/
theorem witness_ValidIsTheConjunction : Config.reference.WellFormed ∧
    valid Config.reference (encodeMove (mk 4 4 1 4 4 0 0 0 4)) false 0 = true ∧
    (encodeMove (mk 4 4 1 4 4 0 0 0 4))[0].getLsbD 8 = false ∧
    valid Config.reference (encodeMove (dwellOf 0)) false 0 = true ∧ (encodeMove (dwellOf 0))[0].getLsbD 8 = true ∧
    valid Config.reference (encodeMove moveP1) true 0x3F = true := by decide
theorem witness_PushFollowsItsTests : quiet.running = false ∧
    (stopped.running = true ∧ stopped.estopped = true) ∧
    (ready.running = true ∧ ready.estopped = false ∧ valid ready.cfg ready.mv false 0 = false) ∧
    (full1.running = true ∧ full1.estopped = false ∧ valid full1.cfg full1.mv false 0 = true ∧
      full1.qlen = full1.cfg.queueCapacity) ∧
    (liveP1.running = true ∧ liveP1.estopped = false ∧ valid liveP1.cfg liveP1.mv false 0 = true ∧
      liveP1.qlen ≠ liveP1.cfg.queueCapacity ∧ liveP1.live = true) ∧
    (let s := { ready with mv := encodeMove moveP1 }
     s.running = true ∧ s.estopped = false ∧ valid s.cfg s.mv false 0 = true ∧ s.qlen ≠ s.cfg.queueCapacity ∧
      s.live = false) := by decide
theorem witness_PushHomeFollowsItsTests : quiet.running = false ∧
    (stopped.running = true ∧ stopped.estopped = true) ∧
    (liveP1.running = true ∧ liveP1.estopped = false ∧ valid liveP1.cfg liveP1.mv true 0x40 = false) ∧
    (full1.running = true ∧ full1.estopped = false ∧ valid full1.cfg full1.mv true 0x3F = true ∧
      full1.qlen = full1.cfg.queueCapacity) ∧
    (liveP1.running = true ∧ liveP1.estopped = false ∧ valid liveP1.cfg liveP1.mv true 0x3F = true ∧
      liveP1.qlen ≠ liveP1.cfg.queueCapacity ∧ liveP1.live = true) ∧
    (let s := { ready with mv := encodeMove moveP1 }
     s.running = true ∧ s.estopped = false ∧ valid s.cfg s.mv true 0x20 = true ∧ s.qlen ≠ s.cfg.queueCapacity ∧
      s.live = false) := by decide
theorem witness_AcceptedPushLengthensTheQueue : Inv liveP1 ∧
    exec .push liveP1 = .next (pushCommand false 0 false liveP1) ∧ (pushCommand false 0 false liveP1).result = .ok ∧
    exec (.pushHome 1 true) liveP1 = .next (pushCommand true 1 true liveP1) ∧
    (pushCommand true 1 true liveP1).result = .ok := ⟨witness_inv_liveP1, rfl, by decide, rfl, by decide⟩
theorem witness_InitEffectAndRefusal :
    (liveP1.running = true ∧ liveP1.estopped = false ∧ ¬(liveP1.head = liveP1.tail ∧ liveP1.live = false)) ∧
    ¬(quiet.running = true ∧ quiet.estopped = false ∧ ¬(quiet.head = quiet.tail ∧ quiet.live = false)) ∧
    ¬(stopped.running = true ∧ stopped.estopped = false ∧ ¬(stopped.head = stopped.tail ∧ stopped.live = false)) := by
  decide
theorem witness_SetposEffectAndRefusal : (quiet.head = quiet.tail ∧ quiet.live = false) ∧
    ¬(liveP1.head = liveP1.tail ∧ liveP1.live = false) ∧ (2 : Fin 8).val < quiet.cfg.nAxes ∧
    quiet.cfg.nAxes ≤ (3 : Fin 8).val := by decide
theorem witness_AcceptanceTable : Inv ready ∧ Inv liveP1 ∧ Inv stopped ∧ Inv full1 ∧
    (ready.running = true ∧ ready.estopped = false ∧ ready.head = ready.tail) ∧
    (liveP1.running = true ∧ liveP1.estopped = false ∧ liveP1.head ≠ liveP1.tail) ∧ stopped.estopped = true ∧
    stopped.running = true ∧ State.reset.running = false :=
  ⟨witness_inv_ready, witness_inv_liveP1, witness_inv_stopped, witness_inv_full1, by decide, by decide, rfl, rfl, rfl⟩
theorem witness_EstopThenInitRecovers : valid liveP1.cfg liveP1.mv false 0 = true ∧ liveP1.cfg.WellFormed := by decide
theorem witness_CounterCountsEveryTick : ready.running = true ∧ quiet.running = false ∧
    exec .nop ready = .next (ready.answer .ok) := ⟨rfl, rfl, rfl⟩
/-- Short and not short at 199 and 200; the three branches at their edges R - 1, R, R + G - 1, R + G. -/
theorem witness_SchedBranches : ready.cfg.WellFormed ∧ ready.anchor < ready.cfg.range ∧
    ((199 : Int) < ((ready.cnt : Int) - ready.anchor) % ready.cfg.range + ready.cfg.safeIsrCycles) ∧
    ¬((200 : Int) < ((ready.cnt : Int) - ready.anchor) % ready.cfg.range + ready.cfg.safeIsrCycles) ∧
    (65535 < ready.cfg.range) ∧ (ready.cfg.range ≤ 65536 ∧ 65536 < ready.cfg.range + ready.cfg.counterGuard) ∧
    75535 < ready.cfg.range + ready.cfg.counterGuard ∧ ready.cfg.range + ready.cfg.counterGuard ≤ 75536 := by decide
theorem witness_RealFireIsDelayTicksLater : ready.cfg.WellFormed ∧ ready.running = true ∧ ready.cnt < ready.cfg.range ∧
    ready.anchor = ready.cnt ∧ (1 : Nat) ≤ 1 ∧ (1 : Nat) ≤ 2 ^ 32 := by decide
theorem witness_WrapFiresBeforeTheRealFire : ready.cfg.WellFormed ∧ ready.running = true ∧
    ready.cnt < ready.cfg.range ∧ ready.anchor = ready.cnt ∧ (1 : Nat) ≤ 197842 := by decide
/-- A wrap fire into each branch, at its edge. -/
theorem witness_WrapFireDoesEmptyWork : ready.cfg.WellFormed ∧
    ({ dwelling 131071 0 with cnt := 65535 }.wrapFireNext = true ∧ 131071 - 65536 < 65536) ∧
    ({ dwelling 131072 0 with cnt := 65535 }.wrapFireNext = true ∧ 65536 ≤ 131072 - 65536) ∧
    ({ dwelling 141071 0 with cnt := 65535 }.wrapFireNext = true ∧ 141071 - 65536 < 65536 + 10000) ∧
    ({ dwelling 141072 0 with cnt := 65535 }.wrapFireNext = true ∧ 65536 + 10000 ≤ 141072 - 65536) ∧
    { dwelling 141072 0 with cnt := 65535 }.cnt < 65536 ∧ (dwelling 141072 0).ocrA < 65536 := by decide
/-- A fire that ends the queue, one that goes on with `cur`, and one that goes on with a no-op interval. -/
theorem witness_RealFireMovesTheAnchor : aboutToStep.cfg.WellFormed ∧ aboutToStep.realFireNext = true ∧
    aboutToStep.live = true ∧ (tick aboutToStep).live = true ∧
    { dwelling 1234 1234 with cnt := 1233 }.realFireNext = true ∧
    (tick { dwelling 1234 1234 with cnt := 1233 }).live = false ∧ (tick aboutToStep).dsp = false ∧
    (aboutToTurn.realFireNext = true ∧ aboutToTurn.live = true ∧ (tick aboutToTurn).live = true ∧
      (tick aboutToTurn).dsp = true) := by decide
theorem witness_TickServiceEffect : ready.running = true ∧ { ready with cnt := 31999 }.tickServiceNext = true ∧
    ready.tickServiceNext = false := by decide
theorem witness_TickBodyEndClearsTheLatch : { ready with tickBusy := true }.tickBusy = true := rfl
theorem witness_StepServiceRunsFirst : let s := { liveP1 with cnt := 31999, ocrA := 32000, anchor := 12000 }
    s.running = true ∧ s.stepArmed = true ∧ s.tickArmed = true ∧ (s.cnt + 1) % s.cfg.range = s.ocrA ∧
      (s.cnt + 1) % s.cfg.range = s.ocrB := by decide
/-- Each phase of step 0, the smallest ramp of each. -/
theorem witness_FirstIntervalByPhase : Config.reference.WellFormed ∧
    (moveStepsOk Config.reference (mk 0 1 1 1 1 0 1 0 0) ∧ 0 < (mk 0 1 1 1 1 0 1 0 0).accelUntilStep.toNat) ∧
    (moveStepsOk Config.reference (mk 0 1 1 0 1 0 1 0 0) ∧ 0 < (mk 0 1 1 0 1 0 1 0 0).decelFromStep.toNat) ∧
    (moveStepsOk Config.reference (mk 0 1 1 0 0 0 1 0 0) ∧ (mk 0 1 1 0 0 0 1 0 0).decelFromStep.toNat = 0) := by decide
/-- The trapezoid of V41-1 at the steps where its phases meet: 2, 3, 6, 7 and 10. -/
theorem witness_NextIntervalRecurrence :
    let at_ := fun k : Nat => { liveP1 with slots := [(0, mk 0 10 4000 3 7 10000 10 0 0)], stepNo := word k }
    (at_ 0).cfg.WellFormed ∧ (at_ 10).liveMove.totalSteps.toNat = (at_ 10).stepNo.toNat ∧
    (at_ 2).stepNo.toNat < (at_ 2).liveMove.accelUntilStep.toNat ∧
    ((at_ 3).liveMove.accelUntilStep.toNat ≤ (at_ 3).stepNo.toNat ∧
      (at_ 6).stepNo.toNat < (at_ 6).liveMove.decelFromStep.toNat) ∧
    ((at_ 7).liveMove.decelFromStep.toNat ≤ (at_ 7).stepNo.toNat ∧
      (at_ 7).stepNo.toNat < (at_ 7).liveMove.totalSteps.toNat) := by decide
theorem witness_RampsAreMonotoneAndBounded :
    let at_ := fun k : Nat => { liveP1 with slots := [(0, mk 0 10 4000 3 7 10000 10 0 0)], stepNo := word k, cur := 400 }
    (at_ 2).cfg.WellFormed ∧ (at_ 9).stepNo.toNat < (at_ 9).liveMove.totalSteps.toNat ∧
    (at_ 2).cfg.minStepTicks ≤ (at_ 2).cur.toNat ∧ (nextInterval (at_ 2)).2.2.phase = .accel ∧
    (nextInterval (at_ 9)).2.2.phase = .decel := by decide
/-- A dwell, a Move with the old direction, and a Move with a new one. -/
theorem witness_LoadStartsTheHeadMove :
    (liveP1.cfg.WellFormed ∧ liveP1.anchor < liveP1.cfg.range ∧ moveOk liveP1.cfg liveP1.liveMove ∧
      liveP1.liveMove.dwell = false ∧ liveP1.dirOut = liveP1.liveMove.dir) ∧
    (moveOk inNoop.cfg inNoop.liveMove ∧ { inNoop with dirOut := 0 }.dirOut ≠ inNoop.liveMove.dir) ∧
    (moveOk liveP1.cfg (dwelling 0 0).liveMove ∧ (dwelling 0 0).liveMove.dwell = true) ∧
    (1 : Fin 16).val < 2 * liveP1.cfg.nAxes ∧ ({ moveP1 with esmask := 2 }).esmask.getLsbD (1 : Fin 16).val = true :=
  ⟨⟨by decide, by decide, by decide, by decide, by decide⟩, ⟨by decide, by decide⟩, ⟨by decide, by decide⟩, by decide, by decide⟩
theorem witness_NoopFireEmitsNoStep : inNoop.cfg.WellFormed ∧ inNoop.live = true ∧ inNoop.dsp = true ∧
    inNoop.realFireNext = true := by decide
theorem witness_DwellFireCompletesWithoutPulse : let s := { dwelling 1234 1234 with cnt := 1233 }
    s.live = true ∧ s.dsp = false ∧ s.liveMove.dwell = true ∧ s.realFireNext = true ∧ (tick s).head = s.tail := by decide
/-- Axis 0 reaches the total exactly, axis 1 stays one below it, axis 3 is absent. -/
theorem witness_StepPulsesEachAxis :
    let m := mk 0 4 1 0 4 0 2 1 4
    let s := { ready with bres := Vector.replicate 8 2 }
    (∀ a : Fin 8, m.delta[a].toNat ≤ m.totalSteps.toNat) ∧
    (∀ a : Fin 8, a.val < s.cfg.nAxes → s.bres[a].toNat < m.totalSteps.toNat) ∧
    m.totalSteps.toNat ≤ s.bres[0].toNat + m.delta[0].toNat ∧
    s.bres[1].toNat + m.delta[1].toNat < m.totalSteps.toNat ∧ s.cfg.nAxes ≤ (3 : Fin 8).val := by decide
theorem witness_BresenhamFairnessAndConservation :
    let m := mk 0 5 4000 0 5 0 1 5 2
    let s := { ready with bres := Vector.replicate 8 2 }
    (2 : Fin 8).val < s.cfg.nAxes ∧ 1 ≤ m.totalSteps.toNat ∧ m.delta[2].toNat ≤ m.totalSteps.toNat ∧
    s.bres[2].toNat = m.totalSteps.toNat / 2 := by decide
/-- Channel 5, the last of three axes: a hit; the same input with the other condition: none. -/
theorem witness_EndstopHitEndsTheMove :
    let s := { ready with pins := Vector.replicate 16 (some true) }
    (5 : Fin 16).val < 2 * s.cfg.nAxes ∧ (0x20 : BitVec 16).getLsbD (5 : Fin 16).val = true ∧
    s.esIn 5 ≠ s.db[5].level ∧ s.cfg.debounceSamples ≤ s.db[5].count + 1 ∧ s.esIn 5 = true ∧
    ¬(s.esIn 5 = false) ∧ ¬((6 : Fin 16).val < 2 * s.cfg.nAxes) ∧ ¬(ready.esIn 5 ≠ ready.db[5].level) := by decide
theorem witness_DirectionChangesOnlyAtMoveBoundary : Inv aboutToTurn ∧ (tick aboutToTurn).dirOut ≠ aboutToTurn.dirOut :=
  ⟨witness_inv_aboutToTurn, by decide⟩
theorem witness_RealFiresAreSpaced : Inv aboutToStep ∧ aboutToStep.realFireNext = true ∧
    398 + 1 < aboutToStep.cfg.minStepTicks := ⟨witness_inv_aboutToStep, by decide, by decide⟩
theorem witness_CompleteAdvancesTheHead : (liveP1.head + 1) % (2 * liveP1.cfg.queueCapacity) = liveP1.tail ∧
    (queuedP1.head + 1) % (2 * queuedP1.cfg.queueCapacity) ≠ queuedP1.tail := by decide
theorem witness_StepLinesFallTogether : let s := { liveP1 with stepOut := 1, pulseTimer := 2 }
    s.running = true ∧ 1 ≤ s.pulseTimer ∧ ∀ k, k < s.pulseTimer → (tick^[k] s).realFireNext = false := by decide
theorem witness_DebounceCountsConsecutiveSamples : let c := { Config.reference with debounceSamples := 3 }
    let ch : Channel := ⟨false, 0⟩
    1 ≤ c.debounceSamples ∧ true ≠ ch.level ∧ ch.count = 0 ∧ 2 < c.debounceSamples ∧ 2 = c.debounceSamples - 1 := by decide
/-- Input 1 is outside the mask 0x0001 and may differ; a Move with mask 0. -/
theorem witness_UnwatchedInputsHaveNoEffect :
    (∀ b : Fin 16, b.val < 2 * ready.cfg.nAxes → ({ moveP1 with esmask := 1 }).esmask.getLsbD b.val = true →
      (ready.pins.set 1 (some true))[b] = ready.pins[b]) ∧ ready.pins.set 1 (some true) ≠ ready.pins ∧
    moveP1.esmask = 0 := by decide
theorem witness_ResetState : Config.reference.WellFormed ∧ (0x10 : BitVec 6) = Port.es ∧ Port.cnt ≠ Port.status := by decide
theorem witness_EveryStepKeepsTheInvariant : Inv aboutToTurn ∧ step aboutToTurn = .next (tick aboutToTurn) :=
  ⟨witness_inv_aboutToTurn, rfl⟩
theorem witness_StepNeverFaults : quiet.cfg.WellFormed ∧
    ¬ { quiet with cfg := { Config.reference with nAxes := 0 } }.cfg.WellFormed := by decide
theorem witness_StepRunsTheDecodedCommand : let s := State.reset.withFetchWord 32 0x01000103
    s.cfg.WellFormed ∧ s.schedule = .agent .host :: [] ∧ s.program = .wr Port.cmd 0x01000103 :: [] ∧
    decode 0x01000103 = some (.pushHome 0x0001 true) ∧
    (State.reset.withScript [.cmd .init]).schedule = .hostStatement :: [] ∧
    (State.reset.withScript [.cmd .init]).program = .wr Port.cmd 1 :: [] ∧ decode 1 = some .init := by decide
/-- A command that is none of the named ones, and PUSH, SETPOS and ESTOP, which are. -/
theorem witness_OwnershipOfFields : exec .nop ready = .next (ready.answer .ok) ∧ Instr.nop ≠ .setpos ∧
    Instr.nop ≠ .estop ∧ Instr.nop ≠ .push ∧ turn .tickBody ready = .next ready := ⟨rfl, by decide, by decide, by decide, rfl⟩
/-- INIT written by the host, and ESTOP from the loop of ENQ and from a value read back. -/
theorem witness_ModeBitsChangeOnlyByTheirCommands :
    (let s := State.reset.withFetchWord 32 1
     s.nextTurn ≠ .reset ∧ s.running = false ∧ answers (step s) (fun t => t.running) = true) ∧
    (let s := ready.withFetchWord 32 4
     s.running = true ∧ answers (step s) (fun t => t.running && t.estopped != s.estopped) = true) ∧
    (let s := { ready with schedule := [.agent .host], program := [.retryPush 4] }
     answers (step s) (fun t => t.estopped != s.estopped) = true) ∧
    (let s := { ready with schedule := [.agent .host], program := [.wrLast Port.cmd], readData := 4 }
     answers (step s) (fun t => t.estopped != s.estopped) = true) := by decide
theorem witness_AfterEstopOnlyTheCounterMoves : Inv stopped ∧ stopped.estopped = true ∧ stopped.running = true :=
  ⟨witness_inv_stopped, rfl, rfl⟩
theorem witness_QuiescentBlockStaysQuiet : Inv ready ∧ ready.quiescent = true ∧ Inv State.reset ∧
    State.reset.quiescent = true := ⟨witness_inv_ready, by decide, witness_inv_reset, by decide⟩
/-- A step that is not the last of its Move, one that is, and one in the TICK of a tick service (V40-3). -/
theorem witness_StepRunsItsPartsInOrder :
    (aboutToStep.live = true ∧ aboutToStep.dsp = false ∧ aboutToStep.liveMove.dwell = false ∧
      aboutToStep.realFireNext = true ∧ (tick aboutToStep).stepNo = 1) ∧
    (aboutToTurn.live = true ∧ aboutToTurn.dsp = false ∧ aboutToTurn.liveMove.dwell = false ∧
      aboutToTurn.realFireNext = true ∧ (tick aboutToTurn).head = 1) ∧
    (let s := { liveP1 with cnt := 31999, ocrA := 32000, anchor := 12000 }
     s.dsp = false ∧ s.liveMove.dwell = false ∧ s.realFireNext = true ∧ s.tickServiceNext = true) := by decide

/-- A run with a tick body busy, one turn of the counter first and then no entry left. -/
def bodyRun : Nat → State
  | 0 => { quiet with tickBusy := true, schedule := [.agent .counter] }
  | 1 => { quiet with tickBusy := true }
  | _ + 2 => quiet

theorem witness_TickBodyIsNotPostponedForEver : IsRun bodyRun ∧ (∀ e ∈ (bodyRun 0).schedule, ∃ g, e = .agent g) ∧
    (bodyRun 1).schedule = [] ∧ (bodyRun 0).tickBusy = true ∧ (bodyRun 2).tickBusy = false := by
  refine ⟨fun n => ?_, fun e h => ⟨.counter, by simpa [bodyRun] using h⟩, rfl, rfl, rfl⟩
  match n with
  | 0 => rfl
  | 1 => rfl
  | _ + 2 => rfl

theorem witness_HostLoopsEndOnTheirCondition :
    { ready with program := [.retryCheck 2], result := .queueFullBlocked }.program = .retryCheck 2 :: [] ∧
    { ready with program := [.waitIdle] }.program = .waitIdle :: [] ∧
    { ready with program := [.retryPush 2] }.program = .retryPush 2 :: [] ∧
    (ready.withScript [.waitIdle]).schedule = .hostStatement :: [] ∧
    (ready.withScript [.waitIdle]).program = .waitIdle :: [] := ⟨rfl, rfl, rfl, rfl, rfl⟩

end Sys2Proof.Tests
end

section
/-! PROOFS. 10_state.md: the invariant holds after reset and every step keeps it (O50, O51), who may write what (O24, O54),
and the mode bits (O55). `Operating` is the invariant in the middle of a fire or a PUSH; each operation has one lemma. -/

namespace Sys2Proof.Machine

/-! ### The ring and the slots -/

/-- The slot part of the invariant, each queued entry with the Move it holds. -/
theorem invSlots_iff {s : State} : InvSlots s ↔
    Memory.wf s.slots = true ∧ (∀ e ∈ s.slots, e.1 < s.cfg.queueCapacity) ∧
    ∀ k < s.qlen, ∃ m, Memory.readSlot s.slots ((s.head + k) % s.cfg.queueCapacity) = some m ∧ moveOk s.cfg m := by
  simp only [InvSlots, Fin.forall_iff, Option.any_eq_true, decide_eq_true_eq]

theorem invSlots_congr {s t : State} (h : InvSlots s) (hcfg : t.cfg = s.cfg) (hslots : t.slots = s.slots)
    (hhead : t.head = s.head) (htail : t.tail = s.tail) : InvSlots t := by
  rw [invSlots_iff] at h ⊢
  simpa only [State.qlen, hcfg, hslots, hhead, htail] using h

theorem slotAt_congr {s t : State} {i : Nat} (hcfg : t.cfg = s.cfg)
    (h : Memory.readSlot t.slots (i % s.cfg.queueCapacity) = Memory.readSlot s.slots (i % s.cfg.queueCapacity)) :
    t.slotAt i = s.slotAt i := by
  simp only [State.slotAt, hcfg, h]

theorem liveMove_congr {s t : State} (hcfg : t.cfg = s.cfg) (hslots : t.slots = s.slots) (hhead : t.head = s.head) :
    t.liveMove = s.liveMove := by
  rw [State.liveMove, hhead]
  exact slotAt_congr hcfg (by rw [hslots])

theorem qlen_pos_iff {s : State} (hhead : s.head < s.cfg.ringMod) (htail : s.tail < s.cfg.ringMod) :
    0 < s.qlen ↔ s.head ≠ s.tail := by
  rw [Nat.pos_iff_ne_zero, ne_eq, State.qlen, subMod_eq_zero_iff (by omega) htail hhead, eq_comm]

/-- A ring index reduced modulo 2·CAP names the same slot (43_move_queue.md R155). -/
theorem mod_ringMod_add_mod (c : Config) (i k : Nat) :
    (i % c.ringMod + k) % c.queueCapacity = (i + k) % c.queueCapacity := by
  have hdvd : c.queueCapacity ∣ c.ringMod := Dvd.intro_left 2 rfl
  rw [Nat.add_mod, Nat.mod_mod_of_dvd _ hdvd, ← Nat.add_mod]

/-- The entry after the last queued one is the entry at `tail` (R155, R156). -/
theorem head_add_qlen_mod {s : State} (htail : s.tail < s.cfg.ringMod) :
    (s.head + s.qlen) % s.cfg.queueCapacity = s.tail % s.cfg.queueCapacity := by
  have h := mod_ringMod_add_mod s.cfg (s.qlen + s.head) 0
  rw [State.qlen, subMod_add (by omega) htail] at h
  rw [Nat.add_comm, State.qlen]
  exact h.symm

/-! ### What stays while the engine works -/

/-- The invariant without what the engine's registers and the step compare say: what holds in the middle of a real fire or
of an accepted PUSH. -/
structure Operating (s : State) : Prop where
  wf : s.cfg.WellFormed
  ranges : InvRanges s
  slots : InvSlots s
  qlen_le : s.qlen ≤ s.cfg.queueCapacity
  running : s.running = true
  estopped : s.estopped = false
  tickArmed : s.tickArmed = true
  drvEn : s.drvEn = true
  lines : InvLines s
  absent : InvAbsent s

theorem Inv.operating {s : State} (h : Inv s) (hr : s.running = true) (he : s.estopped = false) : Operating s := by
  obtain ⟨wf, ranges, slots, ⟨qlen_le, -⟩, ⟨-, -, htick, hdrv, -, -⟩, -, lines, absent⟩ := h
  exact ⟨wf, ranges, slots, qlen_le, hr, he, by simpa [hr, he] using htick, by simpa [hr, he] using hdrv, lines, absent⟩

namespace Operating

variable {s : State}

/-- The whole invariant, given what `Operating` leaves out. -/
theorem inv (h : Operating s) (hlive : s.live = true ↔ s.head ≠ s.tail) (harm : s.stepArmed = s.live)
    (hnst : s.stepArmed = false → s.nst = 0) (heng : InvEngine s) : Inv s :=
  ⟨h.wf, h.ranges, h.slots, ⟨h.qlen_le, hlive⟩,
    ⟨harm, fun _ => ⟨h.running, h.estopped⟩, by simp [h.tickArmed, h.running, h.estopped],
      by simp [h.drvEn, h.running, h.estopped], fun e => by simp [h.estopped] at e, hnst⟩,
    heng, h.lines, h.absent⟩

theorem liveMove_ok (h : Operating s) (hne : s.head ≠ s.tail) : moveOk s.cfg s.liveMove := by
  obtain ⟨-, -, -, -, hhead, htail, -⟩ := h.ranges
  exact liveMove_moveOk h.slots ((qlen_pos_iff hhead htail).2 hne)

/-- SCHED ends a real fire of a live Move in the invariant (R103). -/
theorem arm_inv (h : Operating s) (hlive : s.live = true) (hne : s.head ≠ s.tail) (heng : InvEngine s) {d : Nat}
    (hd : s.cfg.dirSetupTicks < 2 ^ 32 → d < 2 ^ 32) : Inv (s.arm d) := by
  obtain ⟨hcnt, hocrA, hocrB, hanchor, hhead, htail, hpulse, hnst, hdb⟩ := h.ranges
  have hop : Operating (s.arm d) := { h with
    ranges := ⟨hcnt, arm_ocrA_lt d hanchor, hocrB, hanchor, hhead, htail, hpulse,
      fun hdir => arm_nst_lt h.wf (hd hdir), hdb⟩ }
  exact hop.inv (by simp [hlive, hne]) (by simp [hlive]) (by simp) heng

end Operating

/-! ### LOAD and COMPLETE -/

/-- LOAD ends in one SCHED of a 32-bit interval, or of the no-op interval, from the anchor it finds (R136, R137). -/
theorem load_eq_arm (s : State) : ∃ (u : State) (d : Nat), load s = u.arm d ∧ u.cfg = s.cfg ∧ u.anchor = s.anchor ∧
    (d = noopInterval s.cfg ∨ d < 2 ^ 32) := by
  simp only [load]
  split
  · exact ⟨_, _, rfl, rfl, rfl, .inr (BitVec.isLt _)⟩
  · simp only [loadSteps, callSched_eq_arm]
    split
    · exact ⟨_, _, rfl, by simp, by simp, .inl (by simp)⟩
    · exact ⟨_, _, rfl, by simp, by simp, .inr (BitVec.isLt _)⟩

/-- LOAD of a Move with steps restarts the channels it watches, and a dwell none (R136). -/
theorem load_db (s : State) (b : Fin 16) :
    (load s).db[b] =
      if s.liveMove.dwell = false ∧ watched s.cfg s.liveMove b = true then ⟨s.esIn b, 0⟩ else s.db[b] := by
  simp only [load]
  split
  · next hd => simp [hd]
  · next hd =>
    rw [Bool.not_eq_true] at hd
    simp only [hd, true_and]
    have h (u : State) : (loadSteps s.liveMove u).db[b] =
        (initWatched s.liveMove { u with dirOut := s.liveMove.dir }).db[b] := by
      simp only [loadSteps, callSched_eq_arm]
      split <;> simp only [State.arm_db, firstInterval_db]
    rw [h, initWatched_db]
    rfl

@[simp] theorem load_liveMove (s : State) : (load s).liveMove = s.liveMove :=
  liveMove_congr (load_cfg s) (load_slots s) (load_head s)

theorem noopInterval_lt {c : Config} (wf : c.WellFormed) (h : c.dirSetupTicks < 2 ^ 32) : noopInterval c < 2 ^ 32 :=
  max_lt h (WF.min_lt_word wf)

theorem not_watched_of_absent {c : Config} (m : Move) {b : Fin 16} (hb : 2 * c.nAxes ≤ b.val) :
    watched c m b = false := by
  simp [watched, Nat.not_lt.2 hb]

theorem load_ranges {s : State} (wf : s.cfg.WellFormed) (h : InvRanges s) : InvRanges (load s) := by
  obtain ⟨hcnt, -, hocrB, hanchor, hhead, htail, hpulse, -, hdb⟩ := h
  obtain ⟨u, d, e, hcfg, hanc, hd⟩ := load_eq_arm s
  refine ⟨by simpa using hcnt, ?_, by simpa using hocrB, by simpa using hanchor, by simpa using hhead,
    by simpa using htail, by simpa using hpulse, fun hdir => ?_, fun b => ?_⟩
  · rw [e]; exact arm_ocrA_lt d (by rw [hcfg, hanc]; exact hanchor)
  · rw [load_cfg] at hdir
    have hlt : d < 2 ^ 32 := hd.elim (fun hd => hd ▸ noopInterval_lt wf hdir) id
    rw [e]; exact arm_nst_lt (hcfg ▸ wf) hlt
  · rw [load_db, load_cfg]
    split
    · exact WF.debounce_pos wf
    · exact hdb b

theorem load_absent {s : State} (hok : moveOk s.cfg s.liveMove) (h : InvAbsent s) : InvAbsent (load s) := by
  obtain ⟨haxes, hchan⟩ := h
  obtain ⟨⟨hmove, -⟩, -⟩ := hok
  refine ⟨fun a ha => ?_, fun b hb => ?_⟩
  · rw [load_cfg] at ha
    obtain ⟨hpos, hstep, hdir⟩ := haxes a ha
    refine ⟨by simpa using hpos, by simpa using hstep, ?_⟩
    rw [load_dirOut]
    split
    · exact hdir
    · exact (hmove a ha).1
  · rw [load_cfg] at hb
    rw [load_db, not_watched_of_absent _ hb]
    simpa using hchan b hb

/-- After LOAD the engine stands at step 0 of a Move that VALID let through (R136; R41 items 3 and 5). -/
theorem load_engine {s : State} (wf : s.cfg.WellFormed) (hok : moveOk s.cfg s.liveMove) : InvEngine (load s) := by
  obtain ⟨hlive, -, hstep, hbres⟩ := load_starts s
  obtain ⟨-, hbody⟩ := hok
  refine ⟨fun h => by simp [hlive] at h, fun _ => ⟨by simpa using load_cur_ge wf, by simp [hstep]⟩,
    fun _ hd => load_dsp_of_dwell (by simpa using hd), fun _ hd => ?_⟩
  rw [load_liveMove] at hd
  rw [hd] at hbody
  obtain ⟨hT, -⟩ : moveStepsOk s.cfg s.liveMove := hbody
  rw [load_liveMove, hstep, hbres]
  refine ⟨hT, fun a _ => ?_⟩
  simp only [Fin.getElem_fin, Vector.getElem_replicate, BitVec.toNat_udiv]
  exact Nat.div_lt_self hT (by decide)

namespace Operating

variable {s : State}

/-- LOAD of a ring that is not empty ends in the invariant (R136). -/
theorem load_inv (h : Operating s) (hne : s.head ≠ s.tail) : Inv (load s) := by
  obtain ⟨hlive, harm, -, -⟩ := load_starts s
  have hok := h.liveMove_ok hne
  have hop : Operating (load s) :=
    { wf := by simpa using h.wf
      ranges := load_ranges h.wf h.ranges
      slots := invSlots_congr h.slots (load_cfg s) (load_slots s) (load_head s) (load_tail s)
      qlen_le := by simpa [State.qlen] using h.qlen_le
      running := by simpa using h.running
      estopped := by simpa using h.estopped
      tickArmed := by simpa using h.tickArmed
      drvEn := by simpa using h.drvEn
      lines := by simpa only [InvLines, load_pulseTimer, load_stepOut] using h.lines
      absent := load_absent hok h.absent }
  exact hop.inv (by simp [hlive, hne]) (by simp [hlive, harm]) (by simp [harm]) (load_engine h.wf hok)

/-- Freeing the head slot leaves one queued Move less, and the others where they are (R144, R156). -/
theorem free_head (h : Operating s) (hne : s.head ≠ s.tail) :
    Operating { s with head := nextIndex s.cfg s.head, live := false, phase := .none, rampN := 0 } := by
  obtain ⟨hcnt, hocrA, hocrB, hanchor, hhead, htail, hrest⟩ := h.ranges
  have hq : State.qlen { s with head := nextIndex s.cfg s.head, live := false, phase := .none, rampN := 0 } = s.qlen - 1 :=
    subMod_succ_right htail hhead ((qlen_pos_iff hhead htail).2 hne)
  obtain ⟨hwf, hidx, hmoves⟩ := invSlots_iff.1 h.slots
  refine { h with
    ranges := ⟨hcnt, hocrA, hocrB, hanchor, nextIndex_lt _ (WF.ring_pos h.wf), htail, hrest⟩
    slots := invSlots_iff.2 ⟨hwf, hidx, fun k hk => ?_⟩
    qlen_le := hq ▸ (Nat.sub_le _ _).trans h.qlen_le }
  rw [hq] at hk
  have := hmoves (k + 1) (by omega)
  rwa [show s.head + (k + 1) = s.head + 1 + k by omega, ← mod_ringMod_add_mod] at this

/-- COMPLETE of a live Move ends in the invariant, with the next Move loaded or with an idle engine (R144). -/
theorem complete_inv (h : Operating s) (hne : s.head ≠ s.tail) (hdsp : s.dsp = false) (harm : s.stepArmed = false)
    (hnst : s.nst = 0) : Inv (complete s) := by
  have hfree := h.free_head hne
  simp only [complete]
  split
  · next hn => exact hfree.load_inv hn
  · next hn =>
    exact hfree.inv (by simpa using hn) harm (fun _ => hnst)
      ⟨fun _ => ⟨rfl, hdsp⟩, fun x => (by cases x), fun x => (by cases x), fun x => (by cases x)⟩

end Operating

/-! ### STEP -/

/-- The remainder of an axis stays below T (R41 item 5, R139). -/
theorem bresAfter_lt {m : Move} {s : State} {a : Fin 8} (ha : a.val < s.cfg.nAxes)
    (hbres : s.bres[a].toNat < m.totalSteps.toNat) (hdelta : m.delta[a].toNat ≤ m.totalSteps.toNat) :
    (bresAfter m s a).toNat < m.totalSteps.toNat := by
  have hT := m.totalSteps.isLt
  have hsum : bresSum m s a < 2 * m.totalSteps.toNat := by unfold bresSum; omega
  rw [bresAfter, if_pos ha]
  by_cases hp : pulses m s a = true
  · rw [if_pos hp, word_toNat (by omega)]
    omega
  · have hlow : bresSum m s a < m.totalSteps.toNat := by simpa [pulses, ha] using hp
    rwa [if_neg hp, word_toNat (by omega)]

/-- An axis with a delta of T pulses in every step, so some STEP line rises (R139). -/
theorem stepPulses_stepOut_ne_zero {m : Move} {s : State} {a : Fin 8} (ha : a.val < s.cfg.nAxes)
    (hdelta : m.delta[a] = m.totalSteps) : (stepPulses m s).stepOut ≠ 0 := by
  have hp : pulses m s a = true := by simp [pulses, bresSum, ha, hdelta]
  intro h
  rw [← stepPulses_stepOut, h] at hp
  simp at hp

/-- No axis that does not exist pulses (R139). -/
theorem pulses_absent {m : Move} {s : State} {a : Fin 8} (ha : s.cfg.nAxes ≤ a.val) : pulses m s a = false := by
  simp [pulses, Nat.not_lt.2 ha]

/-- `step_no` does not pass T (R41 item 3, R140). -/
theorem stepEndstops_stepNo_le {m : Move} {s : State} (h : s.stepNo.toNat < m.totalSteps.toNat) :
    (stepEndstops m s).stepNo.toNat ≤ m.totalSteps.toNat := by
  have hT := m.totalSteps.isLt
  simp only [stepEndstops]
  split
  · exact le_rfl
  · rw [BitVec.toNat_add]
    exact (Nat.mod_le _ _).trans (by simpa using h)

namespace Operating

variable {s : State}

/-- STEP part 1 raises a line with its pulse timer and moves no absent axis (R139, R142). -/
theorem after_stepPulses {m : Move} (h : Operating s) (hok : moveStepsOk s.cfg m) : Operating (stepPulses m s) := by
  obtain ⟨hcnt, hocrA, hocrB, hanchor, hhead, htail, -, hnst, hdb⟩ := h.ranges
  obtain ⟨haxes, hchan⟩ := h.absent
  obtain ⟨-, -, ⟨a, ha, hdelta⟩, -⟩ := hok
  have hpulse := WF.pulse_pos h.wf
  refine { h with
    ranges := ⟨hcnt, hocrA, hocrB, hanchor, hhead, htail, le_rfl, hnst, hdb⟩
    lines := iff_of_false ?_ (stepPulses_stepOut_ne_zero ha hdelta)
    absent := ⟨fun b hb => ?_, hchan⟩ }
  · rw [stepPulses_pulseTimer]; omega
  · have hnp : pulses m s b = false := pulses_absent hb
    obtain ⟨hpos, -, hdir⟩ := haxes b hb
    refine ⟨?_, by rw [stepPulses_stepOut, hnp], hdir⟩
    rw [stepPulses_pos, posAfter, hnp]
    exact hpos

/-- STEP parts 3 and 4 keep the debouncer's ranges and touch no absent channel (R140, R192). -/
theorem after_stepEndstops (m : Move) (h : Operating s) : Operating (stepEndstops m s) := by
  obtain ⟨hcnt, hocrA, hocrB, hanchor, hhead, htail, hpulse, hnst, hdb⟩ := h.ranges
  obtain ⟨haxes, hchan⟩ := h.absent
  have hcount (b : Fin 16) : (stepEndstops m s).db[b].count < s.cfg.debounceSamples := by
    rw [stepEndstops_db]
    split
    · exact dbSample_count_lt _ (WF.debounce_pos h.wf)
    · exact hdb b
  have hstill (b : Fin 16) (hb : 2 * s.cfg.nAxes ≤ b.val) : (stepEndstops m s).db[b] = ⟨false, 0⟩ := by
    rw [stepEndstops_db, not_watched_of_absent m hb]
    exact hchan b hb
  obtain ⟨n, db, draws, e⟩ : ∃ n db draws, stepEndstops m s = { s with stepNo := n, db := db, draws := draws } :=
    ⟨_, _, _, stepEndstops_frame m s⟩
  rw [e] at hcount hstill ⊢
  exact { h with
    ranges := ⟨hcnt, hocrA, hocrB, hanchor, hhead, htail, hpulse, hnst, hcount⟩
    absent := ⟨haxes, hstill⟩ }

/-- STEP part 5 ends in the invariant, with the next interval scheduled or the move completed (R141). -/
theorem stepNext_inv (h : Operating s) (hlive : s.live = true) (hne : s.head ≠ s.tail) (hdsp : s.dsp = false)
    (harm : s.stepArmed = false) (hnst : s.nst = 0)
    (hstep : s.stepNo.toNat ≤ s.liveMove.totalSteps.toNat)
    (hbres : ∀ a : Fin 8, a.val < s.cfg.nAxes → s.bres[a].toNat < s.liveMove.totalSteps.toNat) :
    Inv (stepNext s) := by
  obtain ⟨p, r, e⟩ : ∃ p r, (nextInterval s).2.2 = { s with phase := p, rampN := r } :=
    ⟨_, _, nextInterval_frame s⟩
  have hop : Operating { s with phase := p, rampN := r } := { h with }
  simp only [stepNext, callSched_eq_arm, e]
  split
  · exact hop.complete_inv hne hdsp harm hnst
  · next hend =>
    have hlt : s.stepNo.toNat < s.liveMove.totalSteps.toNat :=
      lt_of_le_of_ne hstep fun e => hend ((nextInterval_ended_iff s).2 e)
    have hcur := nextInterval_ge h.wf (by simpa using hend)
    have hop : Operating { s with phase := p, rampN := r, cur := (nextInterval s).1 } := { h with }
    exact hop.arm_inv hlive hne
      ⟨fun x => absurd (hlive.symm.trans x) (by decide), fun _ => ⟨hcur, hstep⟩, fun _ _ => hdsp,
        fun _ _ => ⟨hlt, hbres⟩⟩
      fun _ => BitVec.isLt _

end Operating

/-- STEP of a live Move with steps ends in the invariant (R143). -/
theorem Operating.stepDda_inv {s : State} (h : Operating s) (hlive : s.live = true) (hne : s.head ≠ s.tail)
    (hdsp : s.dsp = false) (harm : s.stepArmed = false) (hnst : s.nst = 0) (hdwell : s.liveMove.dwell = false)
    (heng : InvEngine s) : Inv (stepDda s) := by
  obtain ⟨-, hbody⟩ := h.liveMove_ok hne
  rw [hdwell] at hbody
  have hok : moveStepsOk s.cfg s.liveMove := hbody
  obtain ⟨-, -, -, hrun⟩ := heng
  obtain ⟨hstep, hbres⟩ := hrun hlive hdwell
  have hmove (m : Move) : (stepEndstops m (stepPulses m s)).liveMove = s.liveMove :=
    liveMove_congr (by simp) (by simp) (by simp)
  have hop := (h.after_stepPulses hok).after_stepEndstops s.liveMove
  refine hop.stepNext_inv (by simpa using hlive) (by simpa using hne) (by simpa using hdsp) (by simpa using harm)
    (by simpa using hnst) ?_ fun a ha => ?_
  · rw [hmove]
    exact stepEndstops_stepNo_le hstep
  · rw [stepEndstops_cfg, stepPulses_cfg] at ha
    rw [hmove, stepEndstops_bres, stepPulses_bres]
    exact bresAfter_lt ha (hbres a ha) (hok.2.1 a)

/-! ### The parts of a TICK -/

/-- DDA_FIRE of a live Move: the end of the no-op interval, the end of a dwell, or a STEP (R138). -/
theorem Operating.ddaFire_inv {s : State} (h : Operating s) (hlive : s.live = true) (hne : s.head ≠ s.tail)
    (harm : s.stepArmed = false) (hnst : s.nst = 0) (heng : InvEngine s) : Inv (ddaFire s) := by
  rw [ddaFire, if_pos hlive]
  split
  · have hop : Operating { s with dsp := false } := { h with }
    obtain ⟨-, hcur, -, hsteps⟩ := heng
    exact hop.arm_inv hlive hne
      ⟨fun x => absurd (hlive.symm.trans x) (by decide), hcur, fun _ _ => rfl, hsteps⟩ fun _ => s.cur.isLt
  · next hdsp =>
    rw [Bool.not_eq_true] at hdsp
    split
    · exact h.complete_inv hne hdsp harm hnst
    · next hdwell => exact h.stepDda_inv hlive hne hdsp harm hnst (by simpa using hdwell) heng

/-- A real fire moves the anchor, disarms the compare and runs the DDA (R106). -/
theorem realFire_inv {s : State} (h : Inv s) (hlive : s.live = true) : Inv (realFire s) := by
  obtain ⟨-, ⟨hcnt, hocrA, hocrB, -, hhead, htail, hpulse, -, hdb⟩, -, ⟨-, hring⟩, ⟨harm, hmode, -⟩, heng, -⟩ := id h
  obtain ⟨hrun, hest⟩ := hmode (harm.trans hlive)
  have hop : Operating { s with anchor := s.ocrA, nst := 0, stepArmed := false } := { h.operating hrun hest with
    ranges := ⟨hcnt, hocrA, hocrB, hocrA, hhead, htail, hpulse, fun _ => Nat.two_pow_pos 32, hdb⟩ }
  exact hop.ddaFire_inv hlive (hring.1 hlive) rfl rfl heng

/-- The count of a TICK lets the STEP lines fall with the pulse timer (R101, R142). -/
theorem countTick_inv {s : State} (h : Inv s) : Inv (countTick s) := by
  obtain ⟨wf, ranges, slots, ring, modes, engine, lines, ⟨haxes, hchan⟩⟩ := h
  obtain ⟨-, hocrA, hocrB, hanchor, hhead, htail, hpulse, hrest⟩ := ranges
  obtain ⟨harm, hrun, htick, hdrv, hest, hnst⟩ := modes
  refine ⟨wf, ⟨Nat.mod_lt _ (range_pos _), hocrA, hocrB, hanchor, hhead, htail, (Nat.sub_le _ _).trans hpulse, hrest⟩,
    slots, ring, ⟨harm, hrun, htick, hdrv, fun x => ?_, hnst⟩, engine, ?_, fun a ha => ?_, hchan⟩
  · simp [hest x]
  · show s.pulseTimer - 1 = 0 ↔ (if s.pulseTimer = 1 then 0 else s.stepOut) = 0
    split
    · next e => simp [e]
    · next e =>
      have lines : s.pulseTimer = 0 ↔ s.stepOut = 0 := lines
      rw [← lines]
      omega
  · obtain ⟨hpos, hstep, hdir⟩ := haxes a ha
    refine ⟨hpos, ?_, hdir⟩
    show (if s.pulseTimer = 1 then 0 else s.stepOut).getLsbD a.val = false
    split
    · simp
    · exact hstep

/-- A wrap fire writes `nst` and `ocr_a` only, and keeps both in range (R107). -/
theorem wrapFire_inv {s : State} (h : Inv s) : Inv (wrapFire s) := by
  obtain ⟨wf, ranges, slots, ring, modes, engine, lines, absent⟩ := h
  obtain ⟨hcnt, hocrA, hocrB, hanchor, hhead, htail, hpulse, hnst, hdb⟩ := ranges
  obtain ⟨harm, hrun, htick, hdrv, hest, hidle⟩ := modes
  have hpos := range_pos s.cfg
  refine ⟨wf, ⟨hcnt, ?_, hocrB, hanchor, hhead, htail, hpulse, fun hd => wrapFire_nst_lt wf (hnst hd), hdb⟩,
    slots, ring, ⟨harm, hrun, htick, hdrv, hest, fun x => ?_⟩, engine, lines, absent⟩
  · simp only [wrapFire]
    split
    · exact Nat.mod_lt _ hpos
    · split
      · exact subMod_lt _ _ hpos
      · exact hocrA
  · simp [wrapFire, hidle x, hpos]

/-- The tick service writes `ocr_b`, `sys_ticks` and its latch only (R109). -/
theorem cmpB_inv {s : State} (h : Inv s) : Inv (cmpB s) := by
  obtain ⟨wf, ⟨hcnt, hocrA, -, hrest⟩, hother⟩ := h
  exact ⟨wf, ⟨hcnt, hocrA, Nat.mod_lt _ (range_pos _), hrest⟩, hother⟩

/-- TICK keeps the invariant (R101). -/
theorem tick_inv {s : State} (h : Inv s) : Inv (tick s) := by
  have hservice (u : State) (hu : Inv u) : Inv (if s.tickServiceNext then cmpB u else u) := by
    split
    · exact cmpB_inv hu
    · exact hu
  rcases tick_cases s with ⟨-, e⟩ | ⟨-, u, e, ⟨-, -, rfl⟩ | ⟨-, -, rfl⟩ | ⟨hfire, -, rfl⟩⟩
  · rwa [e]
  · exact e ▸ hservice _ (countTick_inv h)
  · exact e ▸ hservice _ (wrapFire_inv (countTick_inv h))
  · have hlive : s.live = true := by
      obtain ⟨-, -, -, -, ⟨harm, -⟩, -⟩ := h
      simp only [State.realFireNext, Bool.and_eq_true] at hfire
      exact harm.symm.trans hfire.1.1.2
    exact e ▸ hservice _ (realFire_inv (countTick_inv h) hlive)

/-! ### The commands -/

/-- The slot write and the publication of PUSH, before it looks at the engine (R161). -/
def State.pushed (s : State) (m : Move) : State := { s.storeSlot s.tail m with tail := nextIndex s.cfg s.tail }

theorem enqueue_eq (m : Move) (s : State) :
    enqueue m s = if s.live then s.pushed m else load { s.pushed m with anchor := s.cnt } := rfl

section Pushed

variable {s : State} (m : Move) (hhead : s.head < s.cfg.ringMod) (htail : s.tail < s.cfg.ringMod)
  (hfull : s.qlen < s.cfg.queueCapacity)
include hhead htail hfull

theorem qlen_pushed : (s.pushed m).qlen = s.qlen + 1 := by
  have hring : s.cfg.ringMod = 2 * s.cfg.queueCapacity := rfl
  have hlt : subMod s.cfg.ringMod s.tail s.head + 1 < s.cfg.ringMod := by
    show s.qlen + 1 < _
    omega
  exact subMod_succ_left htail hhead hlt

/-- PUSH leaves every queued entry alone (R161; 20_memory.md R72). -/
theorem readSlot_pushed {k : Nat} (hk : k < s.qlen) :
    Memory.readSlot (s.pushed m).slots ((s.head + k) % s.cfg.queueCapacity) =
      Memory.readSlot s.slots ((s.head + k) % s.cfg.queueCapacity) :=
  readSlot_writeSlot_other _ _ (queued_ne_tail hhead htail hk hfull)

theorem liveMove_pushed (hne : s.head ≠ s.tail) : (s.pushed m).liveMove = s.liveMove := by
  have h := readSlot_pushed m hhead htail hfull ((qlen_pos_iff hhead htail).2 hne)
  exact slotAt_congr rfl h

end Pushed

/-- A valid Move pushed to a ring that is not full is one queued Move more (R156, R161). -/
theorem Operating.pushed {s : State} (h : Operating s) {m : Move} (hok : moveOk s.cfg m)
    (hfull : s.qlen < s.cfg.queueCapacity) : Operating (s.pushed m) := by
  obtain ⟨hcnt, hocrA, hocrB, hanchor, hhead, htail, hrest⟩ := h.ranges
  have hq := qlen_pushed m hhead htail hfull
  obtain ⟨hwf, hidx, hmoves⟩ := invSlots_iff.1 h.slots
  refine { h with
    ranges := ⟨hcnt, hocrA, hocrB, hanchor, hhead, nextIndex_lt _ (WF.ring_pos h.wf), hrest⟩
    slots := invSlots_iff.2 ⟨writeSlot_wf _ _ hwf, fun e he => ?_, fun k hk => ?_⟩
    qlen_le := hq ▸ hfull }
  · rcases mem_writeSlot he with e | he
    · exact e ▸ Nat.mod_lt _ (WF.cap_pos h.wf)
    · exact hidx _ he
  · rw [hq] at hk
    rcases Nat.lt_succ_iff_lt_or_eq.1 hk with hk | rfl
    · obtain ⟨n, hread, hn⟩ := hmoves k hk
      exact ⟨n, (readSlot_pushed m hhead htail hfull hk).trans hread, hn⟩
    · refine ⟨m, ?_, hok⟩
      show Memory.readSlot (Memory.writeSlot _ _ _) ((s.head + s.qlen) % s.cfg.queueCapacity) = _
      rw [head_add_qlen_mod htail, readSlot_writeSlot_same]

/-- The accepted branch of PUSH keeps the invariant: a live engine is left alone and an idle one started (R161). -/
theorem enqueue_inv {s : State} (h : Inv s) (hrun : s.running = true) (hest : s.estopped = false) {m : Move}
    (hok : moveOk s.cfg m) (hfull : s.qlen ≠ s.cfg.queueCapacity) : Inv (enqueue m s) := by
  obtain ⟨-, ⟨hcnt, -, -, -, hhead, htail, -⟩, -, ⟨hle, hring⟩, ⟨harm, -, -, -, -, hnst⟩, heng, -⟩ := id h
  have hlt := lt_of_le_of_ne hle hfull
  have hop := (h.operating hrun hest).pushed hok hlt
  obtain ⟨hcnt', hocrA', hocrB', -, hhead', htail', hrest'⟩ := hop.ranges
  have hne := (qlen_pos_iff hhead' htail').1 (by rw [qlen_pushed m hhead htail hlt]; exact Nat.succ_pos _)
  rw [enqueue_eq]
  split
  · next hlive =>
    have hmove := liveMove_pushed m hhead htail hlt (hring.1 hlive)
    refine hop.inv (iff_of_true hlive hne) harm hnst ?_
    simp only [InvEngine, hmove]
    exact heng
  · have hop' : Operating { s.pushed m with anchor := s.cnt } := { hop with
      ranges := ⟨hcnt', hocrA', hocrB', hcnt, hhead', htail', hrest'⟩ }
    exact hop'.load_inv hne

/-- PUSH and PUSH_HOME answer an error and do nothing, or enqueue a valid Move (R161, R162). -/
theorem pushCommand_cases (home : Bool) (esmask : BitVec 16) (escond : Bool) (s : State) :
    (∃ r, pushCommand home esmask escond s = s.answer r) ∨
    (s.running = true ∧ s.estopped = false ∧ valid s.cfg s.mv home esmask = true ∧ s.qlen ≠ s.cfg.queueCapacity ∧
      pushCommand home esmask escond s = (enqueue (decodeMove s.mv esmask escond) s).answer .ok) := by
  unfold pushCommand
  split
  · exact .inl ⟨_, rfl⟩
  · next hrun =>
    split
    · exact .inl ⟨_, rfl⟩
    · next hest =>
      split
      · exact .inl ⟨_, rfl⟩
      · next hvalid =>
        split
        · exact .inl ⟨_, rfl⟩
        · next hfull =>
          exact .inr ⟨by simpa using hrun, by simpa using hest, by simpa using hvalid,
            by simpa [State.queueFull] using hfull, rfl⟩

theorem answer_inv {s : State} (h : Inv s) (r : Result) : Inv (s.answer r) := h

theorem pushCommand_inv {s : State} (h : Inv s) {home : Bool} {esmask : BitVec 16} (escond : Bool)
    (hes : home = false → esmask = 0) : Inv (pushCommand home esmask escond s) := by
  rcases pushCommand_cases home esmask escond s with ⟨r, e⟩ | ⟨hrun, hest, hvalid, hfull, e⟩ <;> rw [e]
  · exact answer_inv h r
  · exact answer_inv (enqueue_inv h hrun hest (valid_moveOk escond hes hvalid) hfull) _

/-- Clearing the engine, the compare and `nst` over an empty ring leaves an idle block (R177, R178). -/
theorem clearEngine_inv {s : State} (wf : s.cfg.WellFormed) (ranges : InvRanges s) (slots : InvSlots s)
    (hring : s.head = s.tail) (harm : s.stepArmed = false) (hnst : s.nst = 0)
    (htick : s.tickArmed = (s.running && !s.estopped)) (hdrv : s.drvEn = (s.running && !s.estopped))
    (absent : InvAbsent s) : Inv s.clearEngine := by
  obtain ⟨hcnt, hocrA, hocrB, hanchor, hhead, htail, -, hrest⟩ := ranges
  obtain ⟨haxes, hchan⟩ := absent
  have hq : s.qlen = 0 := by
    rw [State.qlen, hring, subMod_self _ (WF.ring_pos wf)]
  refine ⟨wf, ⟨hcnt, hocrA, hocrB, hanchor, hhead, htail, Nat.zero_le _, hrest⟩, slots,
    ⟨hq ▸ Nat.zero_le _, ?_⟩, ⟨harm, ?_, htick, hdrv, fun _ => rfl, fun _ => hnst⟩,
    ⟨fun _ => ⟨rfl, rfl⟩, ?_, ?_, ?_⟩, iff_of_true rfl rfl, fun a ha => ?_, hchan⟩
  · simp [hring]
  · simp [harm]
  · simp
  · simp
  · simp
  · obtain ⟨hpos, -, hdir⟩ := haxes a ha
    exact ⟨hpos, by simp, hdir⟩

/-- INIT is accepted only where the ring is empty: a block that is stopped or not running has nothing queued (R177). -/
theorem ring_empty_of_not_initBusy {s : State} (h : Inv s) (hb : ¬s.initBusy = true) : s.head = s.tail := by
  obtain ⟨-, -, -, ⟨-, hring⟩, ⟨harm, hmode, -⟩, -⟩ := h
  by_contra hne
  have hlive := hring.2 hne
  obtain ⟨hrun, hest⟩ := hmode (harm.trans hlive)
  simp [State.initBusy, hrun, hest, State.idle, hlive] at hb

theorem initEffect_inv {s : State} (h : Inv s) (hb : ¬s.initBusy = true) : Inv (initEffect s) := by
  obtain ⟨wf, ⟨hcnt, hocrA, -, hanchor, hhead, htail, hpulse, -, hdb⟩, slots, -, -, -, -, absent⟩ := id h
  have hring := ring_empty_of_not_initBusy h hb
  exact clearEngine_inv (s := { timerInit s with estopped := false, drvEn := true }) wf
    ⟨hcnt, hocrA, Nat.mod_lt _ (range_pos _), hanchor, hhead, htail, hpulse, fun _ => Nat.two_pow_pos 32, hdb⟩ slots
    hring rfl rfl rfl rfl absent

theorem estopEffect_inv {s : State} (h : Inv s) : Inv (estopEffect s) := by
  obtain ⟨wf, ⟨hcnt, hocrA, hocrB, hanchor, -, htail, hpulse, -, hdb⟩, slots, -, -, -, -, absent⟩ := h
  have hq : State.qlen { s with head := s.tail } = 0 := subMod_self _ (WF.ring_pos wf)
  obtain ⟨hwf, hidx, -⟩ := slots
  exact clearEngine_inv (s := { stop s with nst := 0, head := s.tail, drvEn := false, estopped := true }) wf
    ⟨hcnt, hocrA, hocrB, hanchor, htail, htail, hpulse, fun _ => Nat.two_pow_pos 32, hdb⟩
    (invSlots_iff.2 ⟨hwf, hidx, fun k hk => absurd (hq ▸ hk) (Nat.not_lt_zero k)⟩) rfl rfl rfl (by simp)
    (by simp) absent

theorem setPositions_inv {s : State} (h : Inv s) : Inv (setPositions s) := by
  obtain ⟨wf, ranges, slots, ring, modes, engine, lines, ⟨haxes, hchan⟩⟩ := h
  refine ⟨wf, ranges, slots, ring, modes, engine, lines, fun a ha => ?_, hchan⟩
  obtain ⟨hpos, hstep, hdir⟩ := haxes a ha
  refine ⟨?_, hstep, hdir⟩
  have ha : s.cfg.nAxes ≤ a.val := ha
  simpa [setPositions, Nat.not_lt.2 ha] using hpos

/-- Every command keeps the invariant. -/
theorem exec_inv {i : Instr} {s t : State} (h : Inv s) (he : exec i s = .next t) : Inv t := by
  cases i <;> cases he
  case nop => exact answer_inv h _
  case init =>
    split
    · exact answer_inv h _
    · next hb => exact answer_inv (initEffect_inv h hb) _
  case push => exact pushCommand_inv h _ fun _ => rfl
  case pushHome esmask sot => exact pushCommand_inv h _ fun x => by cases x
  case estop => exact answer_inv (estopEffect_inv h) _
  case setpos =>
    split
    · exact answer_inv (setPositions_inv h) _
    · exact answer_inv h _

/-! ### Turns -/

/-- The host's next statement writes the word `w` to CMD: a plain write, the CMD write of ENQ, or a write of the value read
last (30_encoding.md R92, R93). -/
def State.HostSends (s : State) (w : Word) : Prop :=
  s.program.head? = some (.wr Port.cmd w) ∨ s.program.head? = some (.retryPush w) ∨
    (s.program.head? = some (.wrLast Port.cmd) ∧ s.readData = w)

/-- A write in the host's turn runs a command, or stages at most one word (20_memory.md R62). -/
theorem hostWrite_cases {a : BitVec 6} {v : Word} {p : List HostStmt} {s t : State}
    (h : hostWrite a v { s with program := p } = .next t) (hsend : a = Port.cmd → s.HostSends v) :
    (∃ w p, s.HostSends w ∧ command w { s with program := p } = .next t) ∨
    ∃ mv p d n, t = { s with mv := mv, program := p, readData := d, draws := n } := by
  unfold hostWrite at h
  split at h
  · next e => exact .inl ⟨v, p, hsend e, h⟩
  · split at h <;> cases h
    · exact .inr ⟨_, _, _, _, rfl⟩
    · exact .inr ⟨_, _, _, _, rfl⟩

/-- A read of the host writes no field of the block (20_memory.md R63). -/
theorem hostRead_frame (a : BitVec 6) (s : State) :
    hostRead a s = { s with readData := (hostRead a s).readData, draws := (hostRead a s).draws } := by
  unfold hostRead
  split <;> rfl

/-- A turn of the host runs the command its next statement sends, or writes `MV` and fields of the model's own only. -/
theorem hostTurn_cases {s t : State} (h : hostTurn s = .next t) :
    (∃ w p, s.HostSends w ∧ command w { s with program := p } = .next t) ∨
    ∃ mv p d n, t = { s with mv := mv, program := p, readData := d, draws := n } := by
  unfold hostTurn at h
  split at h
  case h_1 => cases h; exact .inr ⟨_, _, _, _, rfl⟩
  case h_2 a v rest e => exact hostWrite_cases h fun ha => .inl (by rw [e, ha]; rfl)
  case h_3 a rest e => cases h; rw [hostRead_frame]; exact .inr ⟨_, _, _, _, rfl⟩
  case h_4 a rest e => exact hostWrite_cases h fun ha => .inr (.inr ⟨by rw [e, ha]; rfl, rfl⟩)
  case h_5 w rest e => exact hostWrite_cases h fun _ => .inr (.inl (by rw [e]; rfl))
  case h_6 w rest e => cases h; rw [hostRead_frame]; exact .inr ⟨_, _, _, _, rfl⟩
  case h_7 rest e => cases h; rw [hostRead_frame]; exact .inr ⟨_, _, _, _, rfl⟩
  case h_8 bit n rest e => cases h; exact .inr ⟨_, _, _, _, rfl⟩

theorem command_inv {w : Word} {s t : State} (h : Inv s) (hc : command w s = .next t) : Inv t := by
  unfold command at hc
  split at hc
  · exact exec_inv h hc
  · cases hc; exact answer_inv h _

/-- The state after reset: an empty ring, an idle engine, every register 0 (70_reset_and_hazards.md R236). -/
theorem resetWith_inv {c : Config} (wf : c.WellFormed) : Inv (State.resetWith c) := by
  have hr := range_pos c
  have hm := WF.ring_pos wf
  have hq : (State.resetWith c).qlen = 0 := subMod_self 0 hm
  refine ⟨wf, ⟨hr, hr, hr, hr, hm, hm, Nat.zero_le _, fun _ => Nat.two_pow_pos 32, fun b => ?_⟩,
    invSlots_iff.2 ⟨rfl, fun _ he => absurd he List.not_mem_nil,
      fun k hk => absurd (hq ▸ hk) (Nat.not_lt_zero k)⟩, ⟨hq ▸ Nat.zero_le _, ?_⟩, ?_, ?_,
    iff_of_true rfl rfl, fun a _ => ?_, fun b _ => ?_⟩
  · have hd : 0 < c.debounceSamples := WF.debounce_pos wf
    simpa [State.resetWith] using hd
  · simp [State.resetWith]
  · simp [State.resetWith, InvModes]
  · simp [State.resetWith, InvEngine]
  · simp [State.resetWith]
  · simp [State.resetWith]

/-- Every turn keeps the invariant: the host's by its command, the counter's by TICK, a reset afresh. -/
theorem turn_inv {g : Agent} {s t : State} (h : Inv s) (ht : turn g s = .next t) : Inv t := by
  cases g with
  | host =>
    rcases hostTurn_cases ht with ⟨w, p, -, hc⟩ | ⟨mv, p, d, n, rfl⟩
    · exact command_inv (s := { s with program := p }) h hc
    · exact h
  | counter => cases ht; exact tick_inv h
  | tickBody =>
    cases ht
    unfold tickBodyEnd
    split
    · exact h
    · exact h
  | environment b v => cases ht; exact h
  | reset =>
    cases ht
    obtain ⟨wf, -⟩ := h
    exact (resetWith_inv wf :)

/-- Settles O50, by the parts of the invariant on the reset state, whose ring is empty. -/
theorem resetSatisfiesTheInvariant : Obligations.ResetSatisfiesTheInvariant := fun _ => resetWith_inv

/-- Settles O51: a step is one turn on a state that differs in `schedule` only. -/
theorem everyStepKeepsTheInvariant : Obligations.EveryStepKeepsTheInvariant := by
  intro s t h hs
  obtain ⟨-, ht⟩ := step_turn hs
  have hn : Inv (nextAgent s).2 := by rw [nextAgent_frame]; exact h
  exact turn_inv hn ht

/-! ### Who may write what (10_state.md R43) -/

/-- PUSH and PUSH_HOME, accepted or not, write the engine, the ring's tail and slots, and RESULT (R161, R162). -/
theorem pushCommand_frame (home : Bool) (esmask : BitVec 16) (escond : Bool) (s : State) :
    let t := pushCommand home esmask escond s
    t = { s with
      live := t.live, stepNo := t.stepNo, bres := t.bres, cur := t.cur, phase := t.phase, rampN := t.rampN,
      cCruise := t.cCruise, dsp := t.dsp, ocrA := t.ocrA, stepArmed := t.stepArmed, nst := t.nst, anchor := t.anchor,
      slots := t.slots, tail := t.tail, dirOut := t.dirOut, db := t.db, draws := t.draws, result := t.result } := by
  rcases pushCommand_cases home esmask escond s with ⟨r, e⟩ | ⟨-, -, -, -, e⟩ <;> rw [e]
  · rfl
  · rw [enqueue_frame]
    rfl

/-- No command writes the counter, the tick service's fields or `MV`. -/
theorem exec_keeps {i : Instr} {s t : State} (h : exec i s = .next t) :
    t.cnt = s.cnt ∧ t.sysTicks = s.sysTicks ∧ t.tickBusy = s.tickBusy ∧ t.mv = s.mv := by
  cases i <;> cases h
  case nop => exact ⟨rfl, rfl, rfl, rfl⟩
  case init => split <;> exact ⟨rfl, rfl, rfl, rfl⟩
  case push => rw [pushCommand_frame]; exact ⟨rfl, rfl, rfl, rfl⟩
  case pushHome esmask sot => rw [pushCommand_frame]; exact ⟨rfl, rfl, rfl, rfl⟩
  case estop => exact ⟨rfl, rfl, rfl, rfl⟩
  case setpos => split <;> exact ⟨rfl, rfl, rfl, rfl⟩

/-- Only SETPOS writes `pos` (R176). -/
theorem exec_pos {i : Instr} {s t : State} (h : exec i s = .next t) (hi : i ≠ .setpos) : t.pos = s.pos := by
  cases i <;> cases h
  case nop => rfl
  case init => split <;> rfl
  case push => rw [pushCommand_frame]
  case pushHome esmask sot => rw [pushCommand_frame]
  case estop => rfl
  case setpos => exact absurd rfl hi

/-- Only ESTOP writes `head` (R178). -/
theorem exec_head {i : Instr} {s t : State} (h : exec i s = .next t) (hi : i ≠ .estop) : t.head = s.head := by
  cases i <;> cases h
  case nop => rfl
  case init => split <;> rfl
  case push => rw [pushCommand_frame]
  case pushHome esmask sot => rw [pushCommand_frame]
  case estop => exact absurd rfl hi
  case setpos => split <;> rfl

/-- Only PUSH and PUSH_HOME write the tail, the slots and what LOAD writes beside the flags (R161, R162). -/
theorem exec_keeps_of_not_push {i : Instr} {s t : State} (h : exec i s = .next t) (hhome : ∀ m c, i ≠ .pushHome m c)
    (hpush : i ≠ .push) :
    t.tail = s.tail ∧ t.slots = s.slots ∧ t.dirOut = s.dirOut ∧ t.db = s.db ∧ t.stepNo = s.stepNo ∧ t.bres = s.bres ∧
      t.cur = s.cur ∧ t.cCruise = s.cCruise ∧ t.anchor = s.anchor ∧ t.ocrA = s.ocrA := by
  cases i <;> cases h
  case nop => exact ⟨rfl, rfl, rfl, rfl, rfl, rfl, rfl, rfl, rfl, rfl⟩
  case init => split <;> exact ⟨rfl, rfl, rfl, rfl, rfl, rfl, rfl, rfl, rfl, rfl⟩
  case push => exact absurd rfl hpush
  case pushHome esmask sot => exact absurd rfl (hhome esmask sot)
  case estop => exact ⟨rfl, rfl, rfl, rfl, rfl, rfl, rfl, rfl, rfl, rfl⟩
  case setpos => split <;> exact ⟨rfl, rfl, rfl, rfl, rfl, rfl, rfl, rfl, rfl, rfl⟩

/-- Settles O54, for TICK by its frame and for the commands one group of fields at a time. -/
theorem ownershipOfFields : Obligations.OwnershipOfFields := by
  refine ⟨fun s => by simp [SameForeground], fun i s t h => ?_, fun s t h => ?_⟩
  · obtain ⟨hcnt, hsys, hbusy, hmv⟩ := exec_keeps h
    exact ⟨hcnt, hsys, hbusy, hmv, exec_pos h, exec_head h, exec_keeps_of_not_push h⟩
  · cases h
    unfold tickBodyEnd
    split <;> rfl

/-- While running a TICK counts, whichever fires it makes (R25, R101). -/
theorem tick_cnt {s : State} (hrun : s.running = true) : (tick s).cnt = (s.cnt + 1) % s.cfg.range := by
  rcases tick_cases s with ⟨h, -⟩ | ⟨-, u, e, hu⟩
  · rw [hrun] at h
    cases h
  · have hcnt : (tick s).cnt = u.cnt := by rw [e]; split <;> rfl
    rcases hu with ⟨-, -, rfl⟩ | ⟨-, -, rfl⟩ | ⟨-, -, rfl⟩ <;> simp [hcnt]

/-- Settles O24, by the three cases of a TICK and the frames of the commands. -/
theorem counterCountsEveryTick : Obligations.CounterCountsEveryTick := by
  refine ⟨fun s hrun => ⟨tick_cnt hrun, ?_⟩, fun s hrun => ?_, fun i s t h => (exec_keeps h).1, fun c => rfl⟩
  · rw [tick_cnt hrun]
    exact Nat.mod_lt _ (range_pos _)
  · simp [tick, hrun]

/-! ### The mode bits (R24, R31) -/

/-- INIT alone sets `running`, and no command clears it; INIT alone clears `estopped` and ESTOP alone sets it. -/
theorem exec_modes {i : Instr} {s t : State} (h : exec i s = .next t) :
    (t.running = s.running ∨ (i = .init ∧ t.running = true)) ∧
    (t.estopped = s.estopped ∨ (i = .init ∧ t.estopped = false) ∨ (i = .estop ∧ t.estopped = true)) := by
  cases i <;> cases h
  case nop => exact ⟨.inl rfl, .inl rfl⟩
  case init =>
    split
    · exact ⟨.inl rfl, .inl rfl⟩
    · exact ⟨.inr ⟨rfl, rfl⟩, .inr (.inl ⟨rfl, rfl⟩)⟩
  case push => rw [pushCommand_frame]; exact ⟨.inl rfl, .inl rfl⟩
  case pushHome esmask sot => rw [pushCommand_frame]; exact ⟨.inl rfl, .inl rfl⟩
  case estop => exact ⟨.inl rfl, .inr (.inr ⟨rfl, rfl⟩)⟩
  case setpos => split <;> exact ⟨.inl rfl, .inl rfl⟩

/-- But for reset, a turn leaves the mode bits alone, or it is the host's and runs a command. -/
theorem turn_modes_or_command {g : Agent} {s t : State} (h : turn g s = .next t) (hg : g ≠ .reset) :
    (t.running = s.running ∧ t.estopped = s.estopped) ∨
    (g = .host ∧ ∃ w i p, s.HostSends w ∧ decode w = some i ∧ exec i { s with program := p } = .next t) := by
  cases g with
  | host =>
    rcases hostTurn_cases h with ⟨w, p, hsend, hc⟩ | ⟨mv, p, d, n, rfl⟩
    · unfold command at hc
      split at hc
      · next i hdec => exact .inr ⟨rfl, w, i, p, hsend, hdec, hc⟩
      · cases hc; exact .inl ⟨rfl, rfl⟩
    · exact .inl ⟨rfl, rfl⟩
  | counter => cases h; exact .inl ⟨tick_running s, tick_estopped s⟩
  | tickBody => cases h; unfold tickBodyEnd; split <;> exact .inl ⟨rfl, rfl⟩
  | environment b v => cases h; exact .inl ⟨rfl, rfl⟩
  | reset => exact absurd rfl hg

/-- Settles O55: a mode bit changes only in a turn that runs a command, and there by INIT or ESTOP alone. -/
theorem modeBitsChangeOnlyByTheirCommands : Obligations.ModeBitsChangeOnlyByTheirCommands := by
  intro s t hs hg
  obtain ⟨-, ht⟩ := step_turn hs
  obtain ⟨rest, e⟩ : ∃ rest, (nextAgent s).2 = { s with schedule := rest } := ⟨_, nextAgent_frame s⟩
  rw [e] at ht
  rcases turn_modes_or_command ht hg with ⟨hrun, hest⟩ | ⟨hhost, w, i, p, hsend, hdec, hexec⟩
  · exact ⟨fun h => hrun.trans h, fun h1 h2 => by simp [hrun, h1] at h2, fun h => absurd hest.symm h⟩
  · obtain ⟨hrun, hest⟩ := exec_modes hexec
    refine ⟨fun h => ?_, fun h1 h2 => ?_, fun h => ?_⟩
    · rcases hrun with hrun | ⟨-, hrun⟩
      · exact hrun.trans h
      · exact hrun
    · rcases hrun with hrun | ⟨rfl, -⟩
      · exact absurd (h2.symm.trans hrun) (by simp [h1])
      · exact ⟨hhost, w, hdec, hsend⟩
    · rcases hest with hest | ⟨rfl, hest⟩ | ⟨rfl, hest⟩
      · exact absurd hest.symm h
      · rw [hest, ne_eq, Bool.not_eq_false] at h
        exact ⟨hhost, w, by rw [h]; exact hdec, hsend⟩
      · rw [hest, ne_eq, Bool.not_eq_true] at h
        exact ⟨hhost, w, by rw [h]; exact hdec, hsend⟩

end Sys2Proof.Machine
end

section
/-! PROOFS. 20_memory.md: queued Moves stay as they were pushed (O13), HOST_WRITE (O10), HOST_READ and the register map
(O11, O12), and the byte-addressed view (O9). -/

namespace Sys2Proof.Machine

/-! ### Queued Moves (R72) -/

/-- Every entry queued in `s` still holds its Move in `t`. -/
def KeepsQueued (s t : State) : Prop := ∀ k < s.qlen, t.slotAt (s.head + k) = s.slotAt (s.head + k)

theorem keepsQueued_of_slots {s t : State} (hcfg : t.cfg = s.cfg) (hslots : t.slots = s.slots) : KeepsQueued s t :=
  fun _ _ => slotAt_congr hcfg (by rw [hslots])

/-- LOAD writes no slot: an accepted PUSH leaves the slots of its one slot write (R161). -/
theorem enqueue_slots (m : Move) (s : State) : (enqueue m s).slots = (s.pushed m).slots := by
  rw [enqueue_eq]
  split
  · rfl
  · exact load_slots _

section Ring

variable {s t : State} (hhead : s.head < s.cfg.ringMod) (htail : s.tail < s.cfg.ringMod)
  (hle : s.qlen ≤ s.cfg.queueCapacity)
include hhead htail hle

/-- A refused PUSH writes no slot, and an accepted one the slot at `tail`, which holds no queued Move. -/
theorem pushCommand_keepsQueued (home : Bool) (esmask : BitVec 16) (escond : Bool) :
    KeepsQueued s (pushCommand home esmask escond s) := by
  rcases pushCommand_cases home esmask escond s with ⟨r, e⟩ | ⟨-, -, -, hfull, e⟩ <;> rw [e]
  · exact keepsQueued_of_slots rfl rfl
  · intro k hk
    refine slotAt_congr (enqueue_cfg _ s) ?_
    rw [State.answer_slots, enqueue_slots]
    exact readSlot_pushed _ hhead htail (lt_of_le_of_ne hle hfull) hk

theorem exec_keepsQueued {i : Instr} (h : exec i s = .next t) : KeepsQueued s t := by
  cases i <;> cases h
  case nop => exact keepsQueued_of_slots rfl rfl
  case init => split <;> exact keepsQueued_of_slots rfl rfl
  case push => exact pushCommand_keepsQueued hhead htail hle _ _ _
  case pushHome esmask sot => exact pushCommand_keepsQueued hhead htail hle _ _ _
  case estop => exact keepsQueued_of_slots rfl rfl
  case setpos => split <;> exact keepsQueued_of_slots (State.answer_cfg _ _) (State.answer_slots _ _)

theorem command_keepsQueued {w : Word} (h : command w s = .next t) : KeepsQueued s t := by
  unfold command at h
  split at h
  · exact exec_keepsQueued hhead htail hle h
  · cases h
    exact keepsQueued_of_slots rfl rfl

/-- Of the turns only the host's can write a slot, and there only a command. -/
theorem turn_keepsQueued {g : Agent} (hg : g ≠ .reset) (h : turn g s = .next t) : KeepsQueued s t := by
  cases g with
  | host =>
    rcases hostTurn_cases h with ⟨w, p, -, hc⟩ | ⟨mv, p, d, n, rfl⟩
    · exact command_keepsQueued (s := { s with program := p }) hhead htail hle hc
    · exact keepsQueued_of_slots rfl rfl
  | counter =>
    cases h
    exact keepsQueued_of_slots (tick_cfg s) (tick_slots s)
  | tickBody =>
    cases h
    unfold tickBodyEnd
    split <;> exact keepsQueued_of_slots rfl rfl
  | environment b v =>
    cases h
    exact keepsQueued_of_slots rfl rfl
  | reset => exact absurd rfl hg

end Ring

/-- Settles O13: a step is one turn, and the only slot a turn writes is that of an accepted PUSH. -/
theorem queuedMovesAreImmutable : Obligations.QueuedMovesAreImmutable := by
  intro s t h hs hg
  obtain ⟨-, ⟨-, -, -, -, hhead, htail, -⟩, -, ⟨hle, -⟩, -⟩ := h
  obtain ⟨-, ht⟩ := step_turn hs
  rw [nextAgent_frame] at ht
  exact turn_keepsQueued (s := { s with schedule := (nextAgent s).2.schedule }) hhead htail hle hg ht

/-! ### HOST_WRITE (R62) -/

theorem hostWrite_cmd (v : Word) (s : State) : hostWrite Port.cmd v s = command v s := if_pos rfl

theorem hostWrite_of_le {a : BitVec 6} (h : 0x30 ≤ a.toNat) (v : Word) (s : State) :
    hostWrite a v s = .next { s with mv := s.mv.setIfInBounds (a.toNat - 0x30) v } := by
  have hcmd : a ≠ Port.cmd := by
    rintro rfl
    exact absurd h (by decide)
  rw [hostWrite, if_neg hcmd, if_pos h]

theorem hostWrite_of_lt {a : BitVec 6} (hcmd : a ≠ Port.cmd) (h : a.toNat < 0x30) (v : Word) (s : State) :
    hostWrite a v s = .next s := by
  rw [hostWrite, if_neg hcmd, if_neg (Nat.not_le.2 h)]

/-- Settles O10, by the three branches of HOST_WRITE. -/
theorem hostWriteReachesOnlyCmdAndStaging : Obligations.HostWriteReachesOnlyCmdAndStaging := by
  intro a v s
  refine ⟨?_, fun k hk => ?_, fun hcmd h => hostWrite_of_lt hcmd h v s⟩
  · rintro rfl
    exact hostWrite_cmd v s
  · have hidx : a.toNat - 0x30 = k.val := by omega
    refine ⟨_, hostWrite_of_le (by omega) v s, ?_, fun j hj => ?_, rfl⟩
    · simp [hidx]
    · have hne : k.val ≠ j.val := fun e => hj (Fin.ext e.symm)
      simp [hidx, hne]

/-! ### HOST_READ and the register map (R61, R63) -/

/-- Settles O12, by whether the register is ES. -/
theorem hostReadChangesNoBlockState : Obligations.HostReadChangesNoBlockState := by
  intro a s
  unfold hostRead
  split
  · next h => rw [if_pos (show a = 0x10 from h)]; rfl
  · next h => rw [if_neg (show ¬a = 0x10 from h)]

/-- The low half of the ES word holds the debounced levels. -/
theorem esWord_getLsbD_low (s : State) (b : Fin 16) : s.esWord.getLsbD b.val = s.db[b].level := by
  rw [State.esWord, BitVec.getLsbD_append, if_pos b.isLt, BitVec.getLsbD_eq_getElem b.isLt, BitVec.getElem_ofFnLE]

/-- The high half of the ES word holds the raw inputs of the axes that exist. -/
theorem esWord_getLsbD_high (s : State) (b : Fin 16) :
    s.esWord.getLsbD (16 + b.val) = (decide (b.val < 2 * s.cfg.nAxes) && s.esIn b) := by
  rw [State.esWord, BitVec.getLsbD_append, if_neg (by omega), Nat.add_sub_cancel_left, BitVec.getLsbD_eq_getElem b.isLt,
    BitVec.getElem_ofFnLE]

/-- Above ES the register map is POS, BRES and MV with reserved indices between them. -/
theorem readReg_of_es_lt {a : BitVec 6} (h : 0x10 < a.toNat) (s : State) :
    s.readReg a =
      if 0x18 ≤ a.toNat ∧ a.toNat ≤ 0x1F then s.pos.getD (a.toNat - 0x18) 0
      else if 0x20 ≤ a.toNat ∧ a.toNat ≤ 0x27 then s.bres.getD (a.toNat - 0x20) 0
      else if 0x30 ≤ a.toNat then s.mv.getD (a.toNat - 0x30) 0
      else 0 := by
  have hne : ∀ p : BitVec 6, p.toNat ≤ 0x10 → a ≠ p := by
    rintro p hp rfl
    omega
  unfold State.readReg
  iterate 16 rw [if_neg (hne _ (by decide))]

/-- A read inside the bounds does not use the default. -/
theorem vector_getD_val {α : Type} {n : Nat} (v : Vector α n) (i : Fin n) (d : α) : v.getD i.val d = v[i] := by
  simp [Vector.getD]

theorem readReg_pos (s : State) (a : Fin 8) : s.readReg (Port.pos a) = s.pos[a] := by
  have ha : (Port.pos a).toNat = 0x18 + a.val := Nat.mod_eq_of_lt (by omega)
  rw [readReg_of_es_lt (by omega), if_pos (by omega), ha, Nat.add_sub_cancel_left, vector_getD_val]

theorem readReg_bres (s : State) (a : Fin 8) : s.readReg (Port.bres a) = s.bres[a] := by
  have ha : (Port.bres a).toNat = 0x20 + a.val := Nat.mod_eq_of_lt (by omega)
  rw [readReg_of_es_lt (by omega), if_neg (by omega), if_pos (by omega), ha, Nat.add_sub_cancel_left,
    vector_getD_val]

theorem readReg_mv (s : State) (k : Fin 16) : s.readReg (Port.mv k) = s.mv[k] := by
  have hk : (Port.mv k).toNat = 0x30 + k.val := Nat.mod_eq_of_lt (by omega)
  rw [readReg_of_es_lt (by omega), if_neg (by omega), if_neg (by omega), if_pos (by omega), hk,
    Nat.add_sub_cancel_left, vector_getD_val]

theorem readReg_reserved {a : BitVec 6} (h : (0x11 ≤ a.toNat ∧ a.toNat ≤ 0x17) ∨ (0x28 ≤ a.toNat ∧ a.toNat ≤ 0x2F))
    (s : State) : s.readReg a = 0 := by
  rw [readReg_of_es_lt (by omega), if_neg (by omega), if_neg (by omega), if_neg (by omega)]

theorem readReg_result (s : State) : s.readReg Port.result = (resultCode s.result).setWidth 32 := rfl

/-- QLEN is `qlen` in integers where that fits (R156). -/
theorem readReg_qlen {s : State} (wf : s.cfg.WellFormed)
    (h : ((s.tail : Int) - s.head) % (2 * s.cfg.queueCapacity : Nat) < 2 ^ 32) :
    ((s.readReg Port.qlen).toNat : Int) = ((s.tail : Int) - s.head) % (2 * s.cfg.queueCapacity : Nat) := by
  have hq : (s.qlen : Int) = ((s.tail : Int) - s.head) % (2 * s.cfg.queueCapacity : Nat) :=
    subMod_eq_emod _ _ (WF.ring_pos wf)
  rw [← hq] at h ⊢
  exact congrArg Nat.cast (portWord_toNat (by exact_mod_cast h))

/-- Settles O11: the indices up to ES by the map's own rows, those above by `readReg_of_es_lt`. -/
theorem registerMapValues : Obligations.RegisterMapValues := by
  intro s
  have hresult : s.readReg 0x01 = (resultCode s.result).setWidth 32 := readReg_result s
  refine ⟨rfl, ?_, rfl, readReg_qlen, portWord_toNat, portWord_toNat, rfl, rfl, rfl, portWord_toNat, rfl, rfl, rfl, rfl,
    rfl, rfl, fun b => ⟨esWord_getLsbD_low s b, esWord_getLsbD_high s b⟩, fun a h => readReg_reserved h s,
    fun a => ⟨readReg_pos s a, readReg_bres s a⟩, readReg_mv s⟩
  rw [hresult]
  cases s.result <;> rfl

/-! ### The byte-addressed view (R64, R65) -/

theorem byteOfWord_getLsbD (w : Word) (k : Nat) (b : Fin 8) :
    (byteOfWord w k).getLsbD b.val = w.getLsbD (8 * k + b.val) := by
  simp [byteOfWord]

/-- Neighbouring bit fields put back together, from the top byte down. -/
theorem wordOfBytes_byteOfWord (w : Word) :
    wordOfBytes (byteOfWord w 0) (byteOfWord w 1) (byteOfWord w 2) (byteOfWord w 3) = w := by
  simp only [wordOfBytes, byteOfWord, BitVec.extractLsb'_append_extractLsb'_eq_extractLsb']
  exact BitVec.extractLsb'_eq_self

theorem busIndex_aligned (a : BitVec 6) : busIndex (4 * a.toNat) 4 = some a := by
  have ha : a.toNat < 64 := a.isLt
  rw [busIndex, if_pos (by omega), Nat.mul_div_cancel_left _ (by omega), BitVec.ofNat_toNat, BitVec.setWidth_eq]

/-- Settles O9, by the fields of a word and the index of an aligned access. -/
theorem busBytesAreLittleEndian : Obligations.BusBytesAreLittleEndian :=
  ⟨fun w k b => byteOfWord_getLsbD w k.val b, wordOfBytes_byteOfWord, busIndex_aligned⟩

end Sys2Proof.Machine
end

section
/-! PROOFS. 30_encoding.md: the command words (O1 to O4), format M (O6), the STATUS word (O8), and the host's loops
(O58). -/

namespace Sys2Proof.Machine

/-! ### The rows of the opcode map (R82) -/

/-- A row whose mask is all ones is selected by its pattern alone. -/
theorem selects_allOnes_iff (p w : Word) : (⟨p, 0xFFFFFFFF⟩ : OpcodeRow).selects w = true ↔ p = w := by
  rw [OpcodeRow.selects, beq_iff_eq, show (0xFFFFFFFF : Word) = BitVec.allOnes 32 from rfl, BitVec.and_allOnes, eq_comm]

/-- One bit of a word as a field of width 1. -/
theorem ofBool_getLsbD {w : Nat} (x : BitVec w) (i : Nat) : BitVec.ofBool (x.getLsbD i) = x.extractLsb' i 1 := by
  apply BitVec.eq_of_getLsbD_eq
  simp

/-- A word is its four fields of format C put together (R81). -/
theorem append_fields (w : Word) :
    reservedField w ++ BitVec.ofBool (sotField w) ++ esmaskField w ++ opField w = w := by
  simp only [reservedField, sotField, esmaskField, opField, ofBool_getLsbD,
    BitVec.extractLsb'_append_extractLsb'_eq_extractLsb']
  exact BitVec.extractLsb'_eq_self

/-- The mask of PUSH_HOME's row covers the fields `op` and reserved whole, and its pattern says what they hold. -/
theorem fields_of_rowPushHome_selects {w : Word} (h : rowPushHome.selects w = true) :
    opField w = 0x03 ∧ reservedField w = 0 := by
  rw [OpcodeRow.selects, beq_iff_eq] at h
  have hop : opField (w &&& rowPushHome.mask) = opField w &&& 0xFF#8 := BitVec.extractLsb'_and
  have hres : reservedField (w &&& rowPushHome.mask) = reservedField w &&& 0x7F#7 := BitVec.extractLsb'_and
  rw [h] at hop hres
  rw [show 0xFF#8 = BitVec.allOnes 8 from rfl, BitVec.and_allOnes] at hop
  rw [show 0x7F#7 = BitVec.allOnes 7 from rfl, BitVec.and_allOnes] at hres
  exact ⟨hop.symm, hres.symm⟩

theorem encode_of_rowPushHome_selects {w : Word} (h : rowPushHome.selects w = true) :
    encode (.pushHome (esmaskField w) (sotField w)) = w := by
  obtain ⟨hop, hres⟩ := fields_of_rowPushHome_selects h
  have e := append_fields w
  rw [hop, hres] at e
  exact e

theorem row_mem_opcodeMap (i : Instr) : i.row ∈ opcodeMap := by
  cases i <;> simp [Instr.row, opcodeMap]

theorem rowMatch (i : Instr) : Laws.RowMatch.Statement i := by
  cases i with
  | nop => exact Laws.RowMatch.nop
  | init => exact Laws.RowMatch.init
  | push => exact Laws.RowMatch.push
  | pushHome esmask sot => exact Laws.RowMatch.pushHome esmask sot
  | estop => exact Laws.RowMatch.estop
  | setpos => exact Laws.RowMatch.setpos

/-- A row is selected by the words of its commands and by no other word. -/
theorem selects_iff_exists_encode {r : OpcodeRow} (hr : r ∈ opcodeMap) (w : Word) :
    r.selects w = true ↔ ∃ i : Instr, i.row = r ∧ encode i = w := by
  constructor
  · intro h
    simp only [opcodeMap, List.mem_cons, List.not_mem_nil, or_false] at hr
    rcases hr with rfl | rfl | rfl | rfl | rfl | rfl
    · exact ⟨.nop, rfl, (selects_allOnes_iff _ w).1 h⟩
    · exact ⟨.init, rfl, (selects_allOnes_iff _ w).1 h⟩
    · exact ⟨.push, rfl, (selects_allOnes_iff _ w).1 h⟩
    · exact ⟨.pushHome _ _, rfl, encode_of_rowPushHome_selects h⟩
    · exact ⟨.estop, rfl, (selects_allOnes_iff _ w).1 h⟩
    · exact ⟨.setpos, rfl, (selects_allOnes_iff _ w).1 h⟩
  · rintro ⟨i, rfl, rfl⟩
    exact (rowMatch i _ hr).2 rfl

/-- The rows are disjoint: the word of a command selects that command's row only. -/
theorem row_unique_of_selects {r q : OpcodeRow} (hr : r ∈ opcodeMap) (hq : q ∈ opcodeMap) {w : Word}
    (hrw : r.selects w = true) (hqw : q.selects w = true) : r = q := by
  obtain ⟨i, rfl, rfl⟩ := (selects_iff_exists_encode hr w).1 hrw
  exact ((rowMatch i q hq).1 hqw).symm

/-! ### Decode and encode (R81 to R83) -/

theorem esmaskField_encode (esmask : BitVec 16) (sot : Bool) :
    esmaskField (encode (.pushHome esmask sot)) = esmask := by
  apply BitVec.eq_of_getLsbD_eq
  intro b hb
  rw [esmaskField, BitVec.getLsbD_extractLsb', encode, BitVec.getLsbD_append, BitVec.getLsbD_append]
  simp [hb]

theorem sotField_encode (esmask : BitVec 16) (sot : Bool) : sotField (encode (.pushHome esmask sot)) = sot := by
  rw [sotField, encode, BitVec.getLsbD_append, BitVec.getLsbD_append, BitVec.getLsbD_append]
  simp

theorem decode_of_rowPushHome_selects {w : Word} (h : rowPushHome.selects w = true) :
    decode w = some (.pushHome (esmaskField w) (sotField w)) := by
  have hother {r : OpcodeRow} (hr : r ∈ opcodeMap) (hne : r ≠ rowPushHome) : ¬r.selects w = true :=
    fun hrw => hne (row_unique_of_selects hr (row_mem_opcodeMap (.pushHome 0 false)) hrw h)
  rw [decode, decodeOrReject, if_neg (hother (r := rowNop) (by decide) (by decide)),
    if_neg (hother (r := rowInit) (by decide) (by decide)), if_neg (hother (r := rowPush) (by decide) (by decide)),
    if_pos h]
  rfl

theorem decode_encode (i : Instr) : decode (encode i) = some i := by
  cases i with
  | nop => rfl
  | init => rfl
  | push => rfl
  | pushHome esmask sot =>
    have h : rowPushHome.selects (encode (.pushHome esmask sot)) = true :=
      (rowMatch (.pushHome esmask sot) _ (row_mem_opcodeMap (.pushHome esmask sot))).2 rfl
    rw [decode_of_rowPushHome_selects h, esmaskField_encode, sotField_encode]
  | estop => rfl
  | setpos => rfl

/-- Each branch of the decoder answers the command whose word it was given. -/
theorem encode_of_decode {w : Word} {i : Instr} (h : decode w = some i) : encode i = w := by
  unfold decode decodeOrReject at h
  split_ifs at h with hnop hinit hpush hhome hestop hsetpos <;> cases h
  · exact (selects_allOnes_iff _ w).1 hnop
  · exact (selects_allOnes_iff _ w).1 hinit
  · exact (selects_allOnes_iff _ w).1 hpush
  · exact encode_of_rowPushHome_selects hhome
  · exact (selects_allOnes_iff _ w).1 hestop
  · exact (selects_allOnes_iff _ w).1 hsetpos

/-- Settles O1, by the decoder's branches one way and the row of each command the other. -/
theorem decodeEncodeAgree : Obligations.DecodeEncodeAgree := by
  intro w i
  constructor
  · exact encode_of_decode
  · rintro rfl
    exact decode_encode i

/-- The opcode map has a row for every word of a command, and no other word is decoded. -/
theorem decode_eq_none_iff (w : Word) : decode w = none ↔ ∀ r ∈ opcodeMap, r.selects w = false := by
  constructor
  · intro h r hr
    by_contra hsel
    obtain ⟨i, -, rfl⟩ := (selects_iff_exists_encode hr w).1 ((Bool.not_eq_false _).mp hsel)
    cases (decode_encode i).symm.trans h
  · intro h
    rw [Option.eq_none_iff_forall_ne_some]
    intro i hi
    have hsel := (selects_iff_exists_encode (row_mem_opcodeMap i) w).2 ⟨i, rfl, encode_of_decode hi⟩
    cases (h _ (row_mem_opcodeMap i)).symm.trans hsel

theorem selects_iff_and_mask (r : OpcodeRow) (w : Word) : r.selects w = true ↔ w &&& r.mask = r.pattern := beq_iff_eq

/-- The row of a single word, as R82 writes it. -/
theorem decode_eq_some_iff_and_allOnes (w : Word) (i : Instr) : decode w = some i ↔ w &&& 0xFFFFFFFF = encode i :=
  (decodeEncodeAgree w i).trans <| (selects_allOnes_iff (encode i) w).symm.trans (selects_iff_and_mask _ w)

theorem decode_pushHome_iff_selects (w : Word) :
    (∃ m c, decode w = some (.pushHome m c)) ↔ rowPushHome.selects w = true := by
  constructor
  · rintro ⟨m, c, h⟩
    exact (selects_iff_exists_encode (row_mem_opcodeMap (.pushHome m c)) w).2 ⟨_, rfl, encode_of_decode h⟩
  · exact fun h => ⟨_, _, decode_of_rowPushHome_selects h⟩

/-- Settles O2: five rows hold a single word, PUSH_HOME's is the row the decoder asks for, and the rows are disjoint. -/
theorem decodeSelectsTheRow : Obligations.DecodeSelectsTheRow := by
  refine ⟨fun w => ⟨?nop, ?init, ?push, ?pushHome, ?estop, ?setpos, decode_eq_none_iff w⟩,
    fun r hr q hq w => row_unique_of_selects hr hq⟩
  case nop => exact decode_eq_some_iff_and_allOnes w .nop
  case init => exact decode_eq_some_iff_and_allOnes w .init
  case push => exact decode_eq_some_iff_and_allOnes w .push
  case pushHome => exact (decode_pushHome_iff_selects w).trans (selects_iff_and_mask rowPushHome w)
  case estop => exact decode_eq_some_iff_and_allOnes w .estop
  case setpos => exact decode_eq_some_iff_and_allOnes w .setpos

/-- Settles O3: the word is that of a selected row, and the operands are its fields. -/
theorem pushHomeOperandsAreTheirBits : Obligations.PushHomeOperandsAreTheirBits := by
  intro w m c h
  have hrow := (decode_pushHome_iff_selects w).1 ⟨m, c, h⟩
  obtain ⟨hop, hres⟩ := fields_of_rowPushHome_selects hrow
  rw [decode_of_rowPushHome_selects hrow] at h
  cases h
  refine ⟨fun b => ?_, rfl, fun b => ?_, hop⟩
  · simp [esmaskField]
  · have hb := congrArg (·.getLsbD b.val) hres
    simpa [reservedField] using hb

/-- Settles O4, by running the decoder on each of the eleven words. -/
theorem specWordsDecode : Obligations.SpecWordsDecode := by
  unfold Obligations.SpecWordsDecode
  decide

/-! ### Format M (R84 to R86, R163) -/

theorem flagsWord_dir (reserved : BitVec 23) (dwell : Bool) (dir : BitVec 8) :
    (reserved ++ BitVec.ofBool dwell ++ dir).extractLsb' 0 8 = dir := BitVec.extractLsb'_append_eq_right

theorem flagsWord_dwell (reserved : BitVec 23) (dwell : Bool) (dir : BitVec 8) :
    (reserved ++ BitVec.ofBool dwell ++ dir).getLsbD 8 = dwell := by
  rw [BitVec.getLsbD_append, BitVec.getLsbD_append]
  simp

theorem decodeMove_encodeMove (m : Move) : decodeMove (encodeMove m) m.esmask m.escond = m := by
  have hdir : mvDir (encodeMove m) = m.dir := flagsWord_dir 0 m.dwell m.dir
  have hdwell : mvDwell (encodeMove m) = m.dwell := flagsWord_dwell 0 m.dwell m.dir
  have hdelta : (Vector.ofFn fun a => mvAxis (encodeMove m) a) = m.delta := by
    ext a ha
    rw [Vector.getElem_ofFn]
    interval_cases a <;> rfl
  rw [decodeMove, hdir, hdwell, hdelta]
  rfl

theorem flagsWord_of_fields (w : Word) :
    w.extractLsb' 9 23 ++ BitVec.ofBool (w.getLsbD 8) ++ w.extractLsb' 0 8 = w := by
  simp only [ofBool_getLsbD, BitVec.extractLsb'_append_extractLsb'_eq_extractLsb']
  exact BitVec.extractLsb'_eq_self

theorem encodeMove_decodeMove {mv : Vector Word 16} (h : mv[0].extractLsb' 9 23 = 0) (esmask : BitVec 16)
    (escond : Bool) : encodeMove (decodeMove mv esmask escond) = mv := by
  have hflags := flagsWord_of_fields mv[0]
  rw [h] at hflags
  ext1 k hk
  interval_cases k
  · exact hflags
  all_goals rfl

/-- Settles O6: format M holds every field of a Move, and all of its words but the reserved bits. -/
theorem descriptorRoundTrip : Obligations.DescriptorRoundTrip :=
  ⟨decodeMove_encodeMove, fun _ esmask escond h => encodeMove_decodeMove h esmask escond⟩

/-! ### STATUS (R91) -/

theorem getLsbD_append_ofBool_zero {n : Nat} (x : BitVec n) (b : Bool) : (x ++ BitVec.ofBool b).getLsbD 0 = b := by
  rw [BitVec.getLsbD_append]; simp

theorem getLsbD_append_ofBool_succ {n : Nat} (x : BitVec n) (b : Bool) (i : Nat) :
    (x ++ BitVec.ofBool b).getLsbD (i + 1) = x.getLsbD i := by
  rw [BitVec.getLsbD_append]; simp

theorem statusWord_flags (s : State) :
    let w := s.statusWord
    w.getLsbD 0 = s.running ∧ w.getLsbD 1 = s.estopped ∧ w.getLsbD 2 = s.live ∧ w.getLsbD 3 = s.idle ∧
    w.getLsbD 4 = s.queueFull ∧ w.getLsbD 5 = s.queueEmpty ∧ w.getLsbD 6 = s.stepArmed ∧ w.getLsbD 7 = s.tickArmed ∧
    w.getLsbD 8 = s.tickBusy ∧ w.getLsbD 9 = s.dsp ∧ w.getLsbD 10 = s.drvEn ∧ w.getLsbD 11 = false := by
  simp only [State.statusWord, show 0#1 = BitVec.ofBool false from rfl, getLsbD_append_ofBool_zero,
    getLsbD_append_ofBool_succ, and_self]

theorem statusWord_fields (s : State) :
    let w := s.statusWord
    w.extractLsb' 12 2 = phaseCode s.phase ∧ w.extractLsb' 14 2 = 0 ∧ w.extractLsb' 16 8 = s.stepOut ∧
    w.extractLsb' 24 8 = s.dirOut := by
  simp only [State.statusWord, BitVec.extractLsb'_append_eq_of_le, Nat.reduceLeDiff, Nat.reduceSub]
  exact ⟨BitVec.extractLsb'_append_eq_right, BitVec.extractLsb'_append_eq_right, BitVec.extractLsb'_append_eq_right,
    BitVec.extractLsb'_eq_self⟩

theorem queueEmpty_iff (s : State) : s.queueEmpty = true ↔ s.head = s.tail := beq_iff_eq

theorem idle_iff (s : State) : s.idle = true ↔ s.head = s.tail ∧ s.live = false := by
  rw [State.idle, Bool.and_eq_true, queueEmpty_iff, Bool.not_eq_true']

theorem queueFull_iff {s : State} (wf : s.cfg.WellFormed) :
    s.queueFull = true ↔ ((s.tail : Int) - s.head) % (2 * s.cfg.queueCapacity : Nat) = s.cfg.queueCapacity := by
  have hq : (s.qlen : Int) = ((s.tail : Int) - s.head) % (2 * s.cfg.queueCapacity : Nat) :=
    subMod_eq_emod _ _ (WF.ring_pos wf)
  rw [← hq, Int.natCast_inj]
  exact beq_iff_eq

/-- Settles O8, from the flags and the fields of the STATUS word. -/
theorem statusWordBits : Obligations.StatusWordBits := by
  intro s wf
  obtain ⟨hrun, hest, hlive, hidle, hfull, hempty, hstep, htick, hbusy, hdsp, hdrv, hres⟩ := statusWord_flags s
  obtain ⟨hphase, hres', hout, hdir⟩ := statusWord_fields s
  refine ⟨hrun, hest, hlive, ?_, ?_, ?_, hstep, htick, hbusy, hdsp, hdrv, hres, ?_, hres', hout, hdir⟩
  · rw [hidle]; exact idle_iff s
  · rw [hfull]; exact queueFull_iff wf
  · rw [hempty]; exact queueEmpty_iff s
  · rw [hphase]; cases s.phase <;> rfl

/-! ### The host's loops (R93) -/

theorem statusWord_idle (s : State) : s.statusWord.getLsbD 3 = s.idle := by
  obtain ⟨-, -, -, hidle, -⟩ := statusWord_flags s
  exact hidle

/-- A read of RESULT is 1 for QueueFullBlocked only (R90). -/
theorem resultCode_eq_one_iff (r : Result) : (resultCode r).setWidth 32 = (1 : Word) ↔ r = .queueFullBlocked := by
  cases r <;> decide

theorem hostRead_result (s : State) :
    hostRead Port.result s = { s with readData := (resultCode s.result).setWidth 32 } := rfl

theorem hostRead_status (s : State) : hostRead Port.status s = { s with readData := s.statusWord } := rfl

theorem turn_host_retryCheck {s : State} {w : Word} {rest : List HostStmt} (h : s.program = .retryCheck w :: rest) :
    turn .host s = .next { s with
      readData := (resultCode s.result).setWidth 32
      program := if s.result = .queueFullBlocked then .retryPush w :: rest else rest } := by
  simp only [turn, hostTurn, h, hostRead_result, resultCode_eq_one_iff]

theorem turn_host_waitIdle {s : State} {rest : List HostStmt} (h : s.program = .waitIdle :: rest) :
    turn .host s = .next { s with
      readData := s.statusWord
      program := if s.head = s.tail ∧ s.live = false then rest else .waitIdle :: rest } := by
  simp only [turn, hostTurn, h, hostRead_status, statusWord_idle, idle_iff]

theorem turn_host_retryPush {s : State} {w : Word} {rest : List HostStmt} (h : s.program = .retryPush w :: rest) :
    turn .host s = command w { s with program := .retryCheck w :: rest } := by
  simp only [turn, hostTurn, h, hostWrite_cmd]

theorem hostStatementRest_retryPush {s : State} {w : Word} {rest : List HostStmt}
    (h : s.program = .retryPush w :: rest) (turns : List Turn) :
    hostStatementRest s turns = .hostStatement :: turns := by
  simp only [hostStatementRest, h]

theorem hostStatementRest_retryCheck {s : State} {w : Word} {rest : List HostStmt}
    (h : s.program = .retryCheck w :: rest) (turns : List Turn) :
    hostStatementRest s turns =
      if s.result = .queueFullBlocked then .agent .counter :: .hostStatement :: turns else turns := by
  simp only [hostStatementRest, h]

theorem hostStatementRest_waitIdle {s : State} {rest : List HostStmt} (h : s.program = .waitIdle :: rest)
    (turns : List Turn) :
    hostStatementRest s turns =
      if s.head = s.tail ∧ s.live = false then turns else .agent .counter :: .hostStatement :: turns := by
  simp only [hostStatementRest, h, idle_iff]

/-- Settles O58: what the host's turn does at each statement of a loop, and what is left of the schedule. -/
theorem hostLoopsEndOnTheirCondition : Obligations.HostLoopsEndOnTheirCondition := by
  intro s w rest
  refine ⟨fun h => ⟨_, turn_host_retryCheck h, rfl, rfl⟩, fun h => ⟨_, turn_host_waitIdle h, rfl, rfl⟩,
    turn_host_retryPush, fun turns hs => ?_⟩
  rw [State.nextTurn, nextAgent_hostStatement hs]
  refine ⟨rfl, fun h => ?_, fun h => ?_, fun h => ?_⟩
  · rw [hostStatementRest_retryPush h, ← hs]
  · rw [hostStatementRest_retryCheck h]
  · rw [hostStatementRest_waitIdle h]

end Sys2Proof.Machine
end

section
/-! PROOFS. 40_timer_scheduler.md: SCHED and the fires it leads to (O25 to O29), the two services of a TICK (O30, O32),
a stopped block (O56), and the tick body (O31, O60). -/

namespace Sys2Proof.Machine

/-! ### SCHED (R103, R104) -/

/-- The short-request check, over integers. -/
theorem shortRequest_iff (s : State) (delay : Nat) :
    s.shortRequest delay = true ↔
      (delay : Int) < ((s.cnt : Int) - s.anchor) % s.cfg.range + s.cfg.safeIsrCycles := by
  rw [State.shortRequest, decide_eq_true_eq, ← subMod_eq_emod _ _ (range_pos s.cfg)]
  omega

/-- Settles O25: SCHED is its check, and else `State.arm`. -/
theorem schedBranches : Obligations.SchedBranches := by
  intro delay check s wf hanchor short
  have hshort : (check && s.shortRequest delay) = true ↔ short := by
    rw [Bool.and_eq_true, shortRequest_iff]
  refine ⟨fun h => if_pos (hshort.2 h), fun h => ⟨s.arm delay, if_neg fun hc => h (hshort.1 hc), ?_, rfl⟩⟩
  exact arm_scheduledFor delay wf hanchor

/-- However far SCHED stretches `nst` in the guard band, it holds as many counter ranges as the delay. -/
theorem arm_nst_div (s : State) (delay : Nat) (wf : s.cfg.WellFormed) :
    (s.arm delay).nst / s.cfg.range = delay / s.cfg.range := by
  have hguard := WF.guard_le wf
  simp only [State.arm]
  split
  · rfl
  · split
    · rw [Nat.div_eq_of_lt_le (k := 1) (by omega) (by omega), Nat.div_eq_of_lt_le (k := 1) (by omega) (by omega)]
    · rfl

/-! ### Wrap fires (R107) -/

/-- A wrap fire is SCHED of what is left, from the compare value instead of the anchor. -/
theorem wrapFire_eq_arm (s : State) :
    wrapFire s = { State.arm { s with anchor := s.ocrA } (s.nst - s.cfg.range) with
      anchor := s.anchor, stepArmed := s.stepArmed } := rfl

theorem wrapFire_scheduledFor {s : State} (wf : s.cfg.WellFormed) (harm : s.stepArmed = true)
    (hocr : s.ocrA < s.cfg.range) : ScheduledFor (wrapFire s) s.ocrA (s.nst - s.cfg.range) := by
  obtain ⟨-, hbranches⟩ := arm_scheduledFor (s := { s with anchor := s.ocrA }) (s.nst - s.cfg.range) wf hocr
  rw [wrapFire_eq_arm]
  exact ⟨harm, hbranches⟩

/-- A wrap fire takes one counter range off `nst`. -/
theorem wrapFire_nst_div {s : State} (wf : s.cfg.WellFormed) (h : s.cfg.range ≤ s.nst) :
    (wrapFire s).nst / s.cfg.range + 1 = s.nst / s.cfg.range := by
  have hleft := arm_nst_div { s with anchor := s.ocrA } (s.nst - s.cfg.range) wf
  rw [wrapFire_eq_arm, hleft, Nat.div_eq_sub_div (range_pos _) h]

theorem State.wrapFireNext_iff (s : State) : s.wrapFireNext = true ↔
    s.running = true ∧ s.stepArmed = true ∧ (s.cnt + 1) % s.cfg.range = s.ocrA ∧ s.cfg.range ≤ s.nst := by
  simp only [State.wrapFireNext, Bool.and_eq_true, beq_iff_eq, decide_eq_true_eq, and_assoc]

theorem State.realFireNext_iff (s : State) : s.realFireNext = true ↔
    s.running = true ∧ s.stepArmed = true ∧ (s.cnt + 1) % s.cfg.range = s.ocrA ∧ s.nst < s.cfg.range := by
  simp only [State.realFireNext, Bool.and_eq_true, beq_iff_eq, decide_eq_true_eq, and_assoc]

/-- A TICK makes one of the two fires at most (R106). -/
theorem realFireNext_of_wrapFireNext {s : State} (h : s.wrapFireNext = true) : s.realFireNext = false := by
  obtain ⟨-, -, -, hnst⟩ := s.wrapFireNext_iff.1 h
  rw [← Bool.not_eq_true, State.realFireNext_iff]
  omega

/-- The TICK of a wrap fire is the count, the fire, and perhaps the tick service (R107, R112). -/
theorem tick_of_wrapFire {s : State} (h : s.wrapFireNext = true) :
    tick s = if s.tickServiceNext then cmpB (wrapFire (countTick s)) else wrapFire (countTick s) := by
  rcases tick_cases s with ⟨hr, -⟩ | ⟨-, u, e, ⟨-, hw, -⟩ | ⟨-, -, rfl⟩ | ⟨-, hw, -⟩⟩
  · simp [State.wrapFireNext, hr] at h
  · rw [h] at hw; cases hw
  · exact e
  · rw [h] at hw; cases hw

/-- Settles O28: the compare as SCHED of what is left sets it, and the rest as in any TICK without a real fire. -/
theorem wrapFireDoesEmptyWork : Obligations.WrapFireDoesEmptyWork := by
  intro s wf _ hocr hwrap t left
  obtain ⟨-, harm, -, -⟩ := s.wrapFireNext_iff.1 hwrap
  obtain ⟨hengine, hring, hanchor, hpos, hdir, harmed⟩ := tick_noRealFire s (realFireNext_of_wrapFireNext hwrap)
  have hset : ScheduledFor t s.ocrA left ∧ t.stepOut = (countTick s).stepOut := by
    have hfire := wrapFire_scheduledFor (s := countTick s) wf harm hocr
    show ScheduledFor (tick s) _ _ ∧ (tick s).stepOut = _
    rw [tick_of_wrapFire hwrap]
    split <;> exact ⟨hfire, rfl⟩
  obtain ⟨⟨-, hdirect, hband, hfar⟩, hout⟩ := hset
  rw [show t.cfg = s.cfg from tick_cfg s] at hdirect hband hfar
  exact ⟨hdirect, hband, hfar, harmed.trans harm, hanchor, hengine, hpos, hdir, tick_drvEn s, hout, hring⟩

/-! ### The countdown to the real fire (R108) -/

theorem DueIn.pos {s : State} {d n : Nat} (h : DueIn s d n) : 1 ≤ n := by
  have hd := h.d_pos
  rcases h.due with ⟨-, rfl⟩ | ⟨-, rfl, -⟩ <;> omega

theorem realFireNext_of_dueIn {s : State} {d n : Nat} (h : DueIn s d n) (wf : s.cfg.WellFormed) (hn : n ≠ 1) :
    s.realFireNext = false := by
  rwa [← Bool.not_eq_true, h.realFireNext_iff wf]

theorem tick_iterate_cfg (s : State) (k : Nat) : (tick^[k] s).cfg = s.cfg := by
  induction k with
  | zero => rfl
  | succ k ih => rw [Function.iterate_succ_apply', tick_cfg, ih]

/-- What TICKs without a real fire keep: the engine, the anchor, the positions and the DIR lines. -/
def KeepsEngine (s t : State) : Prop :=
  SameEngine s t ∧ t.anchor = s.anchor ∧ t.pos = s.pos ∧ t.dirOut = s.dirOut

theorem KeepsEngine.refl (s : State) : KeepsEngine s s := by
  simp [KeepsEngine, SameEngine]

theorem keepsEngine_tick {s t : State} (h : KeepsEngine s t) (hfire : t.realFireNext = false) :
    KeepsEngine s (tick t) := by
  obtain ⟨hengine, -, hanchor, hpos, hdir, -⟩ := tick_noRealFire t hfire
  simp only [KeepsEngine, SameEngine] at h hengine ⊢
  simp only [hengine, hanchor, hpos, hdir, h, and_self]

/-- Until the real fire is due every TICK brings it nearer and does nothing else to the engine. -/
theorem dueIn_tick_iterate {s : State} {d n : Nat} (h : DueIn s d n) (wf : s.cfg.WellFormed) (k : Nat) (hk : k < n) :
    (∃ d', DueIn (tick^[k] s) d' (n - k)) ∧ KeepsEngine s (tick^[k] s) := by
  induction k with
  | zero => exact ⟨⟨d, h⟩, .refl s⟩
  | succ k ih =>
    obtain ⟨⟨d', hdue⟩, hkeep⟩ := ih (by omega)
    have wf' : (tick^[k] s).cfg.WellFormed := by rwa [tick_iterate_cfg]
    obtain ⟨d'', hdue', -⟩ := hdue.tick wf' (by omega)
    have hfire := realFireNext_of_dueIn hdue wf' (by omega)
    rw [Function.iterate_succ_apply']
    exact ⟨⟨d'', hdue'⟩, keepsEngine_tick hkeep hfire⟩

theorem tick_iterate_cnt {s : State} (hrun : s.running = true) (hcnt : s.cnt < s.cfg.range) (k : Nat) :
    (tick^[k] s).running = true ∧ (tick^[k] s).cnt = (s.cnt + k) % s.cfg.range := by
  induction k with
  | zero => exact ⟨hrun, (Nat.mod_eq_of_lt hcnt).symm⟩
  | succ k ih =>
    obtain ⟨hrun', hcnt'⟩ := ih
    rw [Function.iterate_succ_apply', tick_running, tick_cnt hrun', tick_iterate_cfg, hcnt', Nat.mod_add_mod]
    exact ⟨hrun', rfl⟩

/-- Settles O26: SCHED makes the real fire due in `delay` TICKs, and each of them counts down. -/
theorem realFireIsDelayTicksLater : Obligations.RealFireIsDelayTicksLater := by
  intro s delay wf hrun hcnt hanchor hdelay
  obtain ⟨d, hdue⟩ := arm_dueIn wf hrun hcnt hanchor hdelay
  have hfire (k : Nat) (hk : k < delay) :
      (tick^[k] (s.arm delay)).realFireNext = true ↔ k = delay - 1 := by
    obtain ⟨⟨d', hdue'⟩, -⟩ := dueIn_tick_iterate hdue wf k hk
    rw [hdue'.realFireNext_iff (by rwa [tick_iterate_cfg])]
    omega
  rw [callSched_eq_arm]
  refine ⟨fun k hk => ⟨hfire k hk, (dueIn_tick_iterate hdue wf k hk).2⟩, ?_⟩
  obtain ⟨-, -, hmatch, -⟩ := (State.realFireNext_iff _).1 ((hfire (delay - 1) (by omega)).2 rfl)
  obtain ⟨-, hcount⟩ := tick_iterate_cnt (s := s.arm delay) hrun hcnt (delay - 1)
  rw [← hmatch, hcount, tick_iterate_cfg, Nat.mod_add_mod, hanchor, State.arm_cfg, State.arm_cnt]
  congr 1
  omega

/-- A TICK that makes no fire leaves `nst` alone. -/
theorem tick_nst_of_noFire {s : State} (hreal : s.realFireNext = false) (hwrap : s.wrapFireNext = false) :
    (tick s).nst = s.nst := by
  rcases tick_cases s with ⟨-, e⟩ | ⟨-, u, e, ⟨-, -, rfl⟩ | ⟨h, -, -⟩ | ⟨h, -, -⟩⟩
  · rw [e]
  · rw [e]; split <;> rfl
  · rw [hwrap] at h; cases h
  · rw [hreal] at h; cases h

theorem tick_nst_of_wrapFire {s : State} (h : s.wrapFireNext = true) :
    (tick s).nst = (wrapFire (countTick s)).nst := by
  rw [tick_of_wrapFire h]
  split <;> rfl

/-- One wrap fire for each counter range in `nst`: the count a TICK adds is the range it takes off. -/
theorem wrapFires_of_dueIn {n : Nat} {s : State} {d : Nat} (h : DueIn s d n) (wf : s.cfg.WellFormed) :
    wrapFires n s = s.nst / s.cfg.range := by
  induction n generalizing s d with
  | zero => exact absurd h.pos (by omega)
  | succ n ih =>
    by_cases hlast : n = 0
    · subst hlast
      have hreal := (h.realFireNext_iff wf).2 rfl
      obtain ⟨-, -, -, hnst⟩ := s.realFireNext_iff.1 hreal
      have hwrap : s.wrapFireNext ≠ true := fun hw => by
        rw [realFireNext_of_wrapFireNext hw] at hreal; cases hreal
      simp [wrapFires, hwrap, Nat.div_eq_of_lt hnst]
    · obtain ⟨d', hdue, -⟩ := h.tick wf (by omega)
      rw [wrapFires, ih hdue (by rwa [tick_cfg]), tick_cfg]
      split
      · next hwrap =>
        obtain ⟨-, -, -, hnst⟩ := s.wrapFireNext_iff.1 hwrap
        rw [tick_nst_of_wrapFire hwrap, Nat.add_comm]
        exact wrapFire_nst_div (s := countTick s) wf hnst
      · next hwrap =>
        rw [tick_nst_of_noFire (realFireNext_of_dueIn h wf (by omega)) (by simpa using hwrap), Nat.zero_add]

/-- Settles O27: the wrap fires are the counter ranges in `nst`, which are those in the delay. -/
theorem wrapFiresBeforeTheRealFire : Obligations.WrapFiresBeforeTheRealFire := by
  intro s delay wf hrun hcnt hanchor hdelay
  obtain ⟨d, hdue⟩ := arm_dueIn wf hrun hcnt hanchor hdelay
  rw [callSched_eq_arm, wrapFires_of_dueIn hdue wf]
  exact arm_nst_div s delay wf

/-! ### Real fires (R106, R138, R141, R144) -/

/-- What a real fire of a live Move leaves of the step compare: disarmed with an idle engine, and else set from the new
anchor `p`, for the next interval or for the no-op interval of a direction change. -/
structure CompareSetFrom (p : Nat) (t : State) : Prop where
  idle : t.live = false → t.stepArmed = false ∧ t.nst = 0 ∧ t.phase = .none
  interval : t.live = true → t.dsp = false → ScheduledFor t p t.cur.toNat
  noop : t.live = true → t.dsp = true → ScheduledFor t p (noopInterval t.cfg)

theorem compareSetFrom_arm_cur {s : State} (wf : s.cfg.WellFormed) (hanchor : s.anchor < s.cfg.range)
    (hlive : s.live = true) (hdsp : s.dsp = false) : CompareSetFrom s.anchor (s.arm s.cur.toNat) where
  idle h := by simp [hlive] at h
  interval _ _ := arm_scheduledFor _ wf hanchor
  noop _ h := by simp [hdsp] at h

theorem compareSetFrom_load {s : State} (wf : s.cfg.WellFormed) (hanchor : s.anchor < s.cfg.range) :
    CompareSetFrom s.anchor (load s) := by
  obtain ⟨hlive, -⟩ := load_starts s
  obtain ⟨hcur, hnoop⟩ := load_scheduledFor wf hanchor
  exact ⟨fun h => by simp [hlive] at h, fun _ => hcur, fun _ => by rw [load_cfg]; exact hnoop⟩

/-- COMPLETE loads the next Move, or leaves the compare as the real fire disarmed it (R144). -/
theorem compareSetFrom_complete {s : State} (wf : s.cfg.WellFormed) (hanchor : s.anchor < s.cfg.range)
    (harm : s.stepArmed = false) (hnst : s.nst = 0) : CompareSetFrom s.anchor (complete s) := by
  simp only [complete]
  split
  · exact compareSetFrom_load
      (s := { s with head := nextIndex s.cfg s.head, live := false, phase := .none, rampN := 0 }) wf hanchor
  · exact ⟨fun _ => ⟨harm, hnst, rfl⟩, fun h => (by cases h), fun h => (by cases h)⟩

/-- STEP part 5 schedules the next interval or completes the Move (R141). -/
theorem compareSetFrom_stepNext {s : State} (wf : s.cfg.WellFormed) (hanchor : s.anchor < s.cfg.range)
    (hlive : s.live = true) (hdsp : s.dsp = false) (harm : s.stepArmed = false) (hnst : s.nst = 0) :
    CompareSetFrom s.anchor (stepNext s) := by
  obtain ⟨p, r, e⟩ : ∃ p r, (nextInterval s).2.2 = { s with phase := p, rampN := r } :=
    ⟨_, _, nextInterval_frame s⟩
  simp only [stepNext, callSched_eq_arm, e]
  split
  · exact compareSetFrom_complete (s := { s with phase := p, rampN := r }) wf hanchor harm hnst
  · exact compareSetFrom_arm_cur (s := { s with phase := p, rampN := r, cur := (nextInterval s).1 }) wf hanchor
      hlive hdsp

/-- DDA_FIRE of a live Move: the end of the no-op interval, of a dwell, or a STEP (R138). -/
theorem compareSetFrom_ddaFire {s : State} (wf : s.cfg.WellFormed) (hanchor : s.anchor < s.cfg.range)
    (hlive : s.live = true) (harm : s.stepArmed = false) (hnst : s.nst = 0) :
    CompareSetFrom s.anchor (ddaFire s) := by
  rw [ddaFire, if_pos hlive]
  split
  · exact compareSetFrom_arm_cur (s := { s with dsp := false }) wf hanchor hlive rfl
  · next hdsp =>
    split
    · exact compareSetFrom_complete wf hanchor harm hnst
    · have hnext := compareSetFrom_stepNext (s := stepEndstops s.liveMove (stepPulses s.liveMove s))
        (by simpa using wf) (by simpa using hanchor) (by simpa using hlive) (by simpa using hdsp)
        (by simpa using harm) (by simpa using hnst)
      rwa [stepEndstops_anchor, stepPulses_anchor] at hnext

/-- Settles O29: a real fire puts the compare value in the anchor, and every branch of DDA_FIRE sets the compare from it
or leaves it disarmed. -/
theorem realFireMovesTheAnchor : Obligations.RealFireMovesTheAnchor := by
  intro s wf hfire hlive
  obtain ⟨hrun, -, hmatch, -⟩ := s.realFireNext_iff.1 hfire
  have hset : CompareSetFrom s.ocrA (realFire (countTick s)) :=
    compareSetFrom_ddaFire (s := { countTick s with anchor := s.ocrA, nst := 0, stepArmed := false }) wf
      (ocrA_lt_of_realFire hfire) hlive rfl rfl
  have hanchor : (realFire (countTick s)).anchor = s.ocrA := by rw [realFire, ddaFire_anchor]; rfl
  have htick : (tick s).anchor = s.ocrA ∧ CompareSetFrom s.ocrA (tick s) := by
    rw [tick_of_realFire hfire]
    split
    · exact ⟨hanchor, hset.idle, hset.interval, hset.noop⟩
    · exact ⟨hanchor, hset⟩
  obtain ⟨hanchor, hidle, hinterval, hnoop⟩ := htick
  rw [tick_cfg] at hnoop
  exact ⟨hanchor, (tick_cnt hrun).trans hmatch, hidle, hinterval, hnoop⟩

/-! ### The two services of a TICK (R109, R112) -/

/-- Settles O30: the count and the step service leave the tick service's fields alone. -/
theorem tickServiceEffect : Obligations.TickServiceEffect := by
  intro s hrun
  have hparts : ∃ u, tick s = (if s.tickServiceNext then cmpB u else u) ∧ u.cfg = s.cfg ∧ u.ocrB = s.ocrB ∧
      u.sysTicks = s.sysTicks ∧ u.tickBusy = s.tickBusy := by
    rcases tick_cases s with ⟨h, -⟩ | ⟨-, u, e, hu⟩
    · rw [hrun] at h; cases h
    · refine ⟨u, e, ?_⟩
      rcases hu with ⟨-, -, rfl⟩ | ⟨-, -, rfl⟩ | ⟨-, -, rfl⟩ <;> simp
  obtain ⟨u, e, hcfg, hocrB, hsys, hbusy⟩ := hparts
  refine ⟨fun h => ?_, fun h => ?_, tick_tickArmed s⟩
  · rw [e, if_pos h, cmpB_ocrB, cmpB_sysTicks, hcfg, hocrB, hsys]
    refine ⟨rfl, rfl, ?_⟩
    cases hb : u.tickBusy <;> simp [cmpB, hb]
  · rw [e, if_neg (by simp [h])]
    exact ⟨hocrB, hsys, hbusy⟩

/-- Settles O32: TICK asks for the match of each compare after the count, and the step service changes neither the
counter nor the tick compare. -/
theorem stepServiceRunsFirst : Obligations.StepServiceRunsFirst := by
  intro s hrun harmA harmB hA hB
  have hmatchA : (countTick s).matchA = true := by simp [State.matchA, harmA, hA]
  have hmatchB : (cmpA (countTick s)).matchB = true := by simp [State.matchB, harmB, hB]
  simp only [tick, hrun, hmatchA, hmatchB, if_true]

/-! ### A stopped block (R111) -/

/-- With both compares disarmed and no pulse on the lines a TICK only counts. -/
theorem tick_of_disarmed {s : State} (hrun : s.running = true) (harmA : s.stepArmed = false)
    (harmB : s.tickArmed = false) (hpulse : s.pulseTimer = 0) :
    tick s = { s with cnt := (s.cnt + 1) % s.cfg.range } := by
  have hmatchA : (countTick s).matchA = false := by simp [State.matchA, harmA]
  have hmatchB : (countTick s).matchB = false := by simp [State.matchB, harmB]
  simp only [tick, hrun, hmatchA, hmatchB, if_true, Bool.false_eq_true, if_false]
  simp [countTick, hrun, hpulse]

/-- ESTOP leaves both compares disarmed and no pulse on the lines, and the invariant keeps it so (R111, R178). -/
theorem disarmed_of_estopped {s : State} (h : Inv s) (hest : s.estopped = true) :
    s.stepArmed = false ∧ s.tickArmed = false ∧ s.pulseTimer = 0 := by
  obtain ⟨-, -, -, -, ⟨-, harm, htick, -, hout, -⟩, -, hlines, -⟩ := h
  refine ⟨?_, by simp [htick, hest], hlines.2 (hout hest)⟩
  by_contra hA
  obtain ⟨-, he⟩ := harm (by simpa using hA)
  rw [hest] at he
  cases he

/-- Settles O56, by induction on the number of TICKs: counting leaves the compares disarmed. -/
theorem afterEstopOnlyTheCounterMoves : Obligations.AfterEstopOnlyTheCounterMoves := by
  intro s n h hest hrun
  obtain ⟨harmA, harmB, hpulse⟩ := disarmed_of_estopped h hest
  obtain ⟨-, ⟨hcnt, -⟩, -⟩ := h
  induction n with
  | zero => rw [Nat.add_zero, Nat.mod_eq_of_lt hcnt]; rfl
  | succ n ih =>
    have hcount := tick_of_disarmed (s := { s with cnt := (s.cnt + n) % s.cfg.range }) hrun harmA harmB hpulse
    rw [Function.iterate_succ_apply', ih, hcount, Nat.mod_add_mod, Nat.add_assoc]

/-! ### The tick body (R110) -/

/-- Settles O31, on the enabled branch of TICK_BODY_END. -/
theorem tickBodyEndClearsTheLatch : Obligations.TickBodyEndClearsTheLatch := by
  intro s h
  rw [turn, tickBodyEnd, if_pos h]

/-- A step leaves the schedule as choosing who moves left it. -/
theorem step_schedule {s t : State} (h : step s = .next t) : t.schedule = (nextAgent s).2.schedule := by
  obtain ⟨-, ht⟩ := step_turn h
  exact turn_schedule ht

/-- A schedule that has run out stays so. -/
theorem schedule_nil_of_le {r : Nat → State} (hr : IsRun r) {n m : Nat} (h : (r n).schedule = []) (hle : n ≤ m) :
    (r m).schedule = [] := by
  induction m, hle using Nat.le_induction with
  | base => exact h
  | succ m _ ih => rw [step_schedule (hr m), nextAgent_nil ih]; exact ih

/-- Each step takes one turn off a schedule of plain turns. -/
theorem schedule_eq_drop {r : Nat → State} (hr : IsRun r) (hplain : ∀ e ∈ (r 0).schedule, ∃ g, e = .agent g)
    (n : Nat) : (r n).schedule = (r 0).schedule.drop n := by
  induction n with
  | zero => rfl
  | succ n ih =>
    rw [step_schedule (hr n), ← List.tail_drop, ← ih]
    cases hs : (r n).schedule with
    | nil => rw [nextAgent_nil hs]; exact hs
    | cons e rest =>
      have he : e ∈ (r 0).schedule := List.mem_of_mem_drop (by rw [← ih, hs]; exact List.mem_cons_self)
      obtain ⟨g, rfl⟩ := hplain e he
      rw [nextAgent_agent hs]
      rfl

/-- With no turn left a running tick body ends in the next step (log 16). -/
theorem step_tickBusy_of_schedule_nil {s t : State} (h : step s = .next t) (hs : s.schedule = [])
    (hbusy : s.tickBusy = true) : t.tickBusy = false := by
  obtain ⟨-, ht⟩ := step_turn h
  rw [State.nextTurn, nextAgent_nil hs, hbusy, if_pos rfl, tickBodyEndClearsTheLatch s hbusy] at ht
  cases ht
  rfl

/-- Settles O60: a schedule of plain turns loses one in each step, and once it is empty a running body ends at
once. -/
theorem tickBodyIsNotPostponedForEver : Obligations.TickBodyIsNotPostponedForEver := by
  intro r hr
  constructor
  · intro hplain
    exact ⟨_, (schedule_eq_drop hr hplain _).trans List.drop_length⟩
  · rintro ⟨n₀, hn₀⟩ n -
    have hs := schedule_nil_of_le hr hn₀ (le_max_right n n₀)
    cases hbusy : (r (max n n₀)).tickBusy with
    | false => exact ⟨_, le_max_left n n₀, hbusy⟩
    | true =>
      exact ⟨_, (le_max_left n n₀).trans (Nat.le_succ _), step_tickBusy_of_schedule_nil (hr _) hs hbusy⟩

end Sys2Proof.Machine
end

section
/-! PROOFS. 41_velocity_profiler.md: the phases (O33), FIRST_INTERVAL and NEXT_INTERVAL (O34 to O36), and the spacing of
real fires (O44). -/

namespace Sys2Proof.Machine

/-! ### PHASE_OF (R121) -/

section Phase

variable {m : Move} {k : Nat}

theorem phaseOf_of_lt_accelUntil (hA : k < m.accelUntilStep.toNat) : phaseOf m k = .accel := if_pos hA

theorem phaseOf_of_lt_decelFrom (hA : m.accelUntilStep.toNat ≤ k) (hD : k < m.decelFromStep.toNat) :
    phaseOf m k = .cruise :=
  (if_neg hA.not_gt).trans (if_pos hD)

theorem phaseOf_of_decelFrom_le (hA : m.accelUntilStep.toNat ≤ k) (hD : m.decelFromStep.toNat ≤ k) :
    phaseOf m k = .decel :=
  (if_neg hA.not_gt).trans (if_neg hD.not_gt)

end Phase

/-- Settles O33: `k` lies in one of the three ranges, and each range has its phase. -/
theorem phaseBoundariesAreHalfOpen : Obligations.PhaseBoundariesAreHalfOpen := by
  intro m k
  by_cases hA : k < m.accelUntilStep.toNat
  · simp [phaseOf_of_lt_accelUntil hA, hA, hA.not_ge]
  · have hA' := Nat.le_of_not_lt hA
    by_cases hD : k < m.decelFromStep.toNat
    · simp [phaseOf_of_lt_decelFrom hA' hD, hA, hA', hD, hD.not_ge]
    · simp [phaseOf_of_decelFrom_le hA' (Nat.le_of_not_lt hD), hA, hA', hD, Nat.le_of_not_lt hD]

/-! ### The recurrence (R122, R125) -/

theorem accelNext_eq (c n : Nat) : accelNext c n = c - 2 * c / (4 * n + 1) := by
  rw [accelNext, floorDiv_of_pos (Nat.succ_pos _)]

/-- The mirror divides by at least 3 while a step remains. -/
theorem decelNext_eq {c r : Nat} (hr : 1 ≤ r) : decelNext c r = c + 2 * c / (4 * r - 1) := by
  rw [decelNext, floorDiv_of_pos (by omega)]

/-- `c_cruise` is no larger than CPU_FREQ, so it fits its register (R122). -/
theorem cruiseInterval_toNat {c : Config} {m : Move} (wf : c.WellFormed) (hrate : 1 ≤ m.nominalRate.toNat) :
    (cruiseInterval c m).toNat = c.cpuFreq / m.nominalRate.toNat := by
  rw [cruiseInterval, floorDiv_of_pos hrate, word_toNat ((Nat.div_le_self _ _).trans_lt (WF.freq_lt wf))]

/-! ### FIRST_INTERVAL (R124) -/

theorem firstInterval_cCruise (m : Move) (s : State) : (firstInterval m s).2.cCruise = cruiseInterval s.cfg m := by
  simp only [firstInterval]
  split
  · rfl
  · split <;> rfl

section FirstInterval

variable {m : Move} (s : State)

theorem firstInterval_in_accel (hA : 0 < m.accelUntilStep.toNat) :
    firstInterval m s = (clamp s.cfg m.c0.toNat,
      { s with cCruise := cruiseInterval s.cfg m, phase := .accel, rampN := 0 }) := by
  simp [firstInterval, phaseOf_of_lt_accelUntil hA]

theorem firstInterval_in_cruise (hA : m.accelUntilStep.toNat = 0) (hD : 0 < m.decelFromStep.toNat) :
    firstInterval m s = (clamp s.cfg (cruiseInterval s.cfg m).toNat,
      { s with cCruise := cruiseInterval s.cfg m, phase := .cruise, rampN := 0 }) := by
  simp [firstInterval, phaseOf_of_lt_decelFrom hA.le hD]

theorem firstInterval_in_decel (hA : m.accelUntilStep.toNat = 0) (hD : m.decelFromStep.toNat = 0) :
    firstInterval m s = (clamp s.cfg (decelNext (cruiseInterval s.cfg m).toNat m.totalSteps.toNat),
      { s with cCruise := cruiseInterval s.cfg m, phase := .decel, rampN := m.totalSteps }) := by
  simp [firstInterval, phaseOf_of_decelFrom_le hA.le hD.le]

end FirstInterval

/-- Settles O34, branch by branch of the phase of step 0. -/
theorem firstIntervalByPhase : Obligations.FirstIntervalByPhase := by
  rintro m s wf ⟨hT, -, -, -, -, hrate⟩ c lim r
  have hc : (cruiseInterval s.cfg m).toNat = c := cruiseInterval_toNat wf hrate
  refine ⟨(congrArg BitVec.toNat (firstInterval_cCruise m s)).trans hc, fun hA => ?_, fun hA hD => ?_,
    fun hA hD => ?_, firstInterval_frame m s⟩
  · have hr : r = _ := firstInterval_in_accel s hA
    rw [hr]
    exact ⟨clamp_toNat wf _, rfl, rfl⟩
  · have hr : r = _ := firstInterval_in_cruise s hA hD
    rw [hr, hc]
    exact ⟨clamp_toNat wf _, rfl, rfl⟩
  · have hr : r = _ := firstInterval_in_decel s hA hD
    rw [hr, hc, decelNext_eq hT]
    exact ⟨clamp_toNat wf _, rfl, rfl⟩

/-! ### NEXT_INTERVAL (R125) -/

section NextInterval

variable {s : State}

theorem nextInterval_at_end (hk : s.stepNo.toNat = s.liveMove.totalSteps.toNat) :
    nextInterval s = (s.cur, true, s) := if_pos hk

variable (hk : s.stepNo.toNat < s.liveMove.totalSteps.toNat)
include hk

theorem nextInterval_goes_on : (nextInterval s).2.1 = false :=
  Bool.eq_false_iff.2 fun hend => hk.ne ((nextInterval_ended_iff s).1 hend)

theorem nextInterval_in_accel (hA : s.stepNo.toNat < s.liveMove.accelUntilStep.toNat) :
    nextInterval s =
      (clamp s.cfg (accelNext s.cur.toNat s.stepNo.toNat), false, { s with phase := .accel, rampN := s.stepNo }) := by
  simp [nextInterval, hk.ne, phaseOf_of_lt_accelUntil hA]

theorem nextInterval_in_cruise (hA : s.liveMove.accelUntilStep.toNat ≤ s.stepNo.toNat)
    (hD : s.stepNo.toNat < s.liveMove.decelFromStep.toNat) :
    nextInterval s = (clamp s.cfg s.cCruise.toNat, false, { s with phase := .cruise, rampN := 0 }) := by
  simp [nextInterval, hk.ne, phaseOf_of_lt_decelFrom hA hD]

theorem nextInterval_in_decel (hA : s.liveMove.accelUntilStep.toNat ≤ s.stepNo.toNat)
    (hD : s.liveMove.decelFromStep.toNat ≤ s.stepNo.toNat) :
    nextInterval s =
      (clamp s.cfg (decelNext s.cur.toNat (s.liveMove.totalSteps.toNat - s.stepNo.toNat)), false,
        { s with phase := .decel, rampN := s.liveMove.totalSteps - s.stepNo }) := by
  have hramp : word (s.liveMove.totalSteps.toNat - s.stepNo.toNat) = s.liveMove.totalSteps - s.stepNo := by
    rw [← BitVec.toNat_sub_of_le (BitVec.le_def.2 hk.le), word_toNat_self]
  simp [nextInterval, hk.ne, phaseOf_of_decelFrom_le hA hD, hramp]

end NextInterval

/-- Settles O35: the end of the move, and below it the branch of each phase with its interval clamped. -/
theorem nextIntervalRecurrence : Obligations.NextIntervalRecurrence := by
  intro s wf _ m k lim r
  refine ⟨nextInterval_at_end, fun hk => ⟨nextInterval_goes_on hk, fun hA => ?_, fun hA hD => ?_, fun hA hD => ?_⟩⟩
  · have hr : r = _ := nextInterval_in_accel hk hA
    rw [hr, accelNext_eq]
    exact ⟨clamp_toNat wf _, rfl⟩
  · have hr : r = _ := nextInterval_in_cruise hk hA hD
    rw [hr]
    exact ⟨clamp_toNat wf _, rfl⟩
  · have hr : r = _ := nextInterval_in_decel hk hA hD
    rw [hr, decelNext_eq (Nat.sub_pos_of_lt hk)]
    exact ⟨clamp_toNat wf _, rfl⟩

/-! ### The ramps (R126, R129) -/

/-- The clamp keeps what is at most an interval not below MIN_STEP_TICKS. -/
theorem clamp_le {c : Config} (wf : c.WellFormed) {v x : Nat} (hv : v ≤ x) (hx : c.minStepTicks ≤ x) :
    (clamp c v).toNat ≤ x := by
  rw [clamp_toNat wf]
  exact (min_le_left _ _).trans (max_le hv hx)

/-- The clamp keeps what is at least a 32-bit interval. -/
theorem le_clamp {c : Config} (wf : c.WellFormed) {v : Nat} (x : Word) (hv : x.toNat ≤ v) :
    x.toNat ≤ (clamp c v).toNat := by
  rw [clamp_toNat wf]
  exact le_min (hv.trans (le_max_left _ _)) (Nat.le_pred_of_lt x.isLt)

/-- Settles O36: the ACCEL step subtracts, the DECEL step adds, and the clamp keeps both orders. -/
theorem rampsAreMonotoneAndBounded : Obligations.RampsAreMonotoneAndBounded := by
  intro s wf hk hcur
  refine ⟨nextInterval_ge wf (nextInterval_goes_on hk), ?_⟩
  rcases Nat.lt_or_ge s.stepNo.toNat s.liveMove.accelUntilStep.toNat with hA | hA
  · rw [nextInterval_in_accel hk hA]
    exact ⟨fun _ => clamp_le wf (Nat.sub_le _ _) hcur, fun h => by cases h⟩
  · rcases Nat.lt_or_ge s.stepNo.toNat s.liveMove.decelFromStep.toNat with hD | hD
    · rw [nextInterval_in_cruise hk hA hD]
      exact ⟨fun h => (by cases h), fun h => (by cases h)⟩
    · rw [nextInterval_in_decel hk hA hD]
      exact ⟨fun h => (by cases h), fun _ => le_clamp wf s.cur (Nat.le_add_right _ _)⟩

/-! ### The spacing of real fires (R108, R126) -/

/-- `ScheduledFor` fixes `ocr_a` and `nst`: in the guard band the compare lies one guard before the anchor (R103). -/
theorem scheduledFor_unique {s t : State} {p delay : Nat} (hs : ScheduledFor s p delay) (ht : ScheduledFor t p delay)
    (hcfg : t.cfg = s.cfg) : t.ocrA = s.ocrA ∧ t.nst = s.nst := by
  obtain ⟨-, hdirect, hband, hfar⟩ := hs
  obtain ⟨-, hdirect', hband', hfar'⟩ := ht
  rw [hcfg] at hdirect' hband' hfar'
  rcases Nat.lt_or_ge delay s.cfg.range with h | h
  · obtain ⟨hnst, hocr⟩ := hdirect h
    obtain ⟨hnst', hocr'⟩ := hdirect' h
    exact ⟨hocr'.trans hocr.symm, hnst'.trans hnst.symm⟩
  · rcases Nat.lt_or_ge delay (s.cfg.range + s.cfg.counterGuard) with hg | hg
    · obtain ⟨hnst, hocr, hlt⟩ := hband h hg
      obtain ⟨hnst', hocr', hlt'⟩ := hband' h hg
      have hmod : t.ocrA + s.cfg.counterGuard ≡ s.ocrA + s.cfg.counterGuard [MOD s.cfg.range] :=
        hocr'.trans hocr.symm
      exact ⟨(Nat.ModEq.add_right_cancel' _ hmod).eq_of_lt_of_lt hlt' hlt, hnst'.trans hnst.symm⟩
    · obtain ⟨hnst, hocr⟩ := hfar hg
      obtain ⟨hnst', hocr'⟩ := hfar' hg
      exact ⟨hocr'.trans hocr.symm, hnst'.trans hnst.symm⟩

/-- A compare set from the counter makes the real fire due in `delay` TICKs, whatever set it (R108 item a). -/
theorem dueIn_of_scheduledFor {s : State} {delay : Nat} (wf : s.cfg.WellFormed) (hrun : s.running = true)
    (hcnt : s.cnt < s.cfg.range) (h : ScheduledFor s s.cnt delay) (hdelay : 1 ≤ delay) :
    ∃ d, DueIn s d delay := by
  obtain ⟨d, hdue⟩ := arm_dueIn (s := { s with anchor := s.cnt }) wf hrun hcnt rfl hdelay
  obtain ⟨hocr, hnst⟩ := scheduledFor_unique
    (arm_scheduledFor (s := { s with anchor := s.cnt }) delay wf hcnt) h rfl
  obtain ⟨harm, -⟩ := h
  exact ⟨d, { hdue with armed := harm, matches_at := hocr.trans hdue.matches_at, due := hnst ▸ hdue.due }⟩

theorem realFireNext_of_disarmed {s : State} (h : s.stepArmed = false) : s.realFireNext = false := by
  simp [State.realFireNext, h]

/-- A disarmed step compare stays so, TICK after TICK. -/
theorem tick_iterate_disarmed {s : State} (h : s.stepArmed = false) (k : Nat) : (tick^[k] s).stepArmed = false := by
  induction k with
  | zero => exact h
  | succ k ih =>
    obtain ⟨-, -, -, -, -, harmed⟩ := tick_noRealFire _ (realFireNext_of_disarmed ih)
    rw [Function.iterate_succ_apply', harmed, ih]

/-- With the step compare set `delay` TICKs ahead no earlier TICK makes a real fire (R108). -/
theorem realFireNext_before_delay {s : State} {delay : Nat} (wf : s.cfg.WellFormed) (hrun : s.running = true)
    (hcnt : s.cnt < s.cfg.range) (h : ScheduledFor s s.cnt delay) {k : Nat} (hk : k + 1 < delay) :
    (tick^[k] s).realFireNext = false := by
  obtain ⟨d, hdue⟩ := dueIn_of_scheduledFor wf hrun hcnt h (by omega)
  obtain ⟨⟨d', hdue'⟩, -⟩ := dueIn_tick_iterate hdue wf k (by omega)
  exact realFireNext_of_dueIn hdue' (by rwa [tick_iterate_cfg]) (by omega)

/-- Settles O44: after a real fire the compare is disarmed, or set for `cur` or for the no-op interval, and neither is
shorter than MIN_STEP_TICKS. -/
theorem realFiresAreSpaced : Obligations.RealFiresAreSpaced := by
  intro s h hfire k hk
  obtain ⟨hrun, harm, -, -⟩ := s.realFireNext_iff.1 hfire
  obtain ⟨wf, -, -, -, ⟨hmode, -⟩, -⟩ := id h
  obtain ⟨wf', ⟨hcnt, -⟩, -, -, -, ⟨-, hcur, -⟩, -⟩ := tick_inv h
  obtain ⟨-, hmatch, hidle, hinterval, hnoop⟩ := realFireMovesTheAnchor s wf hfire (hmode.symm.trans harm)
  rw [← hmatch] at hinterval hnoop
  rw [← tick_cfg s] at hk hnoop
  have hspaced {delay : Nat} (hset : ScheduledFor (tick s) (tick s).cnt delay)
      (hmin : (tick s).cfg.minStepTicks ≤ delay) : (tick^[k] (tick s)).realFireNext = false :=
    realFireNext_before_delay wf' ((tick_running s).trans hrun) hcnt hset (hk.trans_le hmin)
  cases hlive : (tick s).live with
  | false =>
    obtain ⟨hoff, -⟩ := hidle hlive
    exact realFireNext_of_disarmed (tick_iterate_disarmed hoff k)
  | true =>
    cases hdsp : (tick s).dsp with
    | false =>
      obtain ⟨hmin, -⟩ := hcur hlive
      exact hspaced (hinterval hlive hdsp) hmin
    | true => exact hspaced (hnoop hlive hdsp) (le_max_right _ _)

end Sys2Proof.Machine
end

section
/-! PROOFS. 42_dda_engine.md: LOAD and COMPLETE (O37, O45), the parts of STEP (O40 to O42, O59), the real fires without a
step (O38, O39), the DIR lines (O43) and the fall of the STEP lines (O46). -/

namespace Sys2Proof.Machine

/-! ### LOAD (R136, R137) -/

/-- FIRST_INTERVAL looks at the Move and the configuration only (R124). -/
theorem firstInterval_congr (m : Move) {s t : State} (h : t.cfg = s.cfg) :
    (firstInterval m t).1 = (firstInterval m s).1 ∧ (firstInterval m t).2.cCruise = (firstInterval m s).2.cCruise ∧
      (firstInterval m t).2.phase = (firstInterval m s).2.phase ∧
      (firstInterval m t).2.rampN = (firstInterval m s).2.rampN := by
  simp only [firstInterval, h]
  split
  · exact ⟨rfl, rfl, rfl, rfl⟩
  · split <;> exact ⟨rfl, rfl, rfl, rfl⟩

theorem load_profile_of_steps {s : State} (h : s.liveMove.dwell = false) :
    (load s).cur = (firstInterval s.liveMove s).1 ∧ (load s).cCruise = (firstInterval s.liveMove s).2.cCruise ∧
      (load s).phase = (firstInterval s.liveMove s).2.phase ∧
      (load s).rampN = (firstInterval s.liveMove s).2.rampN := by
  simp only [load, h, Bool.false_eq_true, if_false, loadSteps, callSched_eq_arm]
  split <;> exact firstInterval_congr s.liveMove (by simp)

/-- A dwell gets its interval from `c0` and leaves `c_cruise` (R136, 43_move_queue.md R160). -/
theorem load_profile_of_dwell {s : State} (wf : s.cfg.WellFormed) (h : s.liveMove.dwell = true) :
    (load s).cur.toNat = max s.liveMove.c0.toNat s.cfg.minStepTicks ∧ (load s).cCruise = s.cCruise ∧
      (load s).phase = .none ∧ (load s).rampN = 0 := by
  simp only [load, h, if_true]
  exact ⟨word_toNat (max_lt (BitVec.isLt _) (WF.min_lt_word wf)), rfl, rfl, rfl⟩

/-- A Move with steps gets a no-op interval exactly when the DIR lines change (R137). -/
theorem load_dsp_of_steps {s : State} (h : s.liveMove.dwell = false) :
    (load s).dsp = true ↔ s.dirOut ≠ s.liveMove.dir := by
  simp only [load, h, Bool.false_eq_true, if_false, loadSteps, callSched_eq_arm]
  split
  · next hne => simp [hne]
  · next heq => simp [heq]

theorem watched_iff (c : Config) (m : Move) (b : Fin 16) :
    watched c m b = true ↔ b.val < 2 * c.nAxes ∧ m.esmask.getLsbD b.val = true := by
  rw [watched, Bool.and_eq_true, decide_eq_true_eq]

/-- Settles O37: what LOAD writes for every Move, and then the fields a dwell and a Move with steps get. -/
theorem loadStartsTheHeadMove : Obligations.LoadStartsTheHeadMove := by
  intro s wf hanchor _ m t
  obtain ⟨hlive, -, hstep, hbres⟩ := load_starts s
  obtain ⟨hcur, hnoop⟩ := load_scheduledFor wf hanchor
  refine ⟨hlive, hstep, fun a => ?_, load_frame s, fun hd => ?_, fun hd => ?_⟩
  · simp only [t, m, hbres, Fin.getElem_fin, Vector.getElem_replicate, BitVec.toNat_udiv]
    rfl
  · obtain ⟨hlen, hcruise, hphase, hramp⟩ := load_profile_of_dwell wf hd
    have hdsp := load_dsp_of_dwell hd
    refine ⟨hphase, hramp, hdsp, hlen, hcur hdsp, (load_dirOut s).trans (if_pos hd), ?_, hcruise⟩
    ext b hb : 1
    have hdb := load_db s ⟨b, hb⟩
    rwa [if_neg (by simp [show s.liveMove.dwell = true from hd])] at hdb
  · obtain ⟨hfirst, hcruise, hphase, hramp⟩ := load_profile_of_steps hd
    have hdsp := load_dsp_of_steps hd
    refine ⟨(load_dirOut s).trans (if_neg (by simp [show s.liveMove.dwell = false from hd])), hfirst, hcruise, hphase,
      hramp, fun b => ?_, fun heq => ?_, fun hne => ?_⟩
    · exact (load_db s b).trans (if_congr (by rw [and_iff_right hd, watched_iff]) rfl rfl)
    · have hoff : t.dsp = false := Bool.eq_false_iff.2 fun h => hdsp.1 h heq
      exact ⟨hoff, hcur hoff⟩
    · exact ⟨hdsp.2 hne, hnoop (hdsp.2 hne)⟩

/-! ### COMPLETE (R144) -/

/-- Settles O45, by the branch of COMPLETE and what LOAD starts. -/
theorem completeAdvancesTheHead : Obligations.CompleteAdvancesTheHead := by
  intro s n
  refine ⟨fun h => if_neg (not_not.2 h), fun h => ?_⟩
  have e : complete s = load { s with head := n, live := false, phase := .none, rampN := 0 } := if_pos h
  obtain ⟨hlive, -⟩ := load_starts { s with head := n, live := false, phase := .none, rampN := 0 }
  rw [e]
  exact ⟨rfl, hlive, load_head _, load_anchor _⟩

theorem complete_of_last {s : State} (h : nextIndex s.cfg s.head = s.tail) :
    complete s = { s with head := nextIndex s.cfg s.head, live := false, phase := .none, rampN := 0 } :=
  (completeAdvancesTheHead s).1 h

theorem complete_head (s : State) : (complete s).head = nextIndex s.cfg s.head := by
  by_cases h : nextIndex s.cfg s.head = s.tail
  · rw [complete_of_last h]
  · obtain ⟨-, -, hhead, -⟩ := (completeAdvancesTheHead s).2 h
    exact hhead

/-! ### STEP part 1 (R139) -/

section Pulses

variable {m : Move} {s : State} {a : Fin 8} (ha : a.val < s.cfg.nAxes)
include ha

theorem pulses_iff : pulses m s a = true ↔ m.totalSteps.toNat ≤ s.bres[a].toNat + m.delta[a].toNat := by
  rw [pulses, bresSum, Bool.and_eq_true, decide_eq_true_eq, decide_eq_true_eq, and_iff_right ha]

/-- An axis whose sum reaches T pulses, and one subtraction brings the sum back below T. -/
theorem stepPulses_of_sum_ge (hbres : s.bres[a].toNat < m.totalSteps.toNat)
    (hdelta : m.delta[a].toNat ≤ m.totalSteps.toNat)
    (hsum : m.totalSteps.toNat ≤ s.bres[a].toNat + m.delta[a].toNat) :
    (stepPulses m s).stepOut.getLsbD a.val = true ∧
    (stepPulses m s).bres[a].toNat + m.totalSteps.toNat = s.bres[a].toNat + m.delta[a].toNat ∧
    (stepPulses m s).pos[a] = if s.dirOut.getLsbD a.val then s.pos[a] - 1 else s.pos[a] + 1 := by
  have hfit : s.bres[a].toNat + m.delta[a].toNat - m.totalSteps.toNat < 2 ^ 32 :=
    (Nat.sub_le_of_le_add (Nat.add_le_add hbres.le hdelta)).trans_lt m.totalSteps.isLt
  have hp : pulses m s a = true := (pulses_iff ha).2 hsum
  rw [stepPulses_stepOut, stepPulses_bres, stepPulses_pos, bresAfter, posAfter, if_pos ha, if_pos hp, if_pos hp, bresSum,
    word_toNat hfit]
  exact ⟨hp, Nat.sub_add_cancel hsum, rfl⟩

/-- An axis whose sum stays below T keeps the sum and does not move. -/
theorem stepPulses_of_sum_lt (hsum : s.bres[a].toNat + m.delta[a].toNat < m.totalSteps.toNat) :
    (stepPulses m s).stepOut.getLsbD a.val = false ∧
    (stepPulses m s).bres[a].toNat = s.bres[a].toNat + m.delta[a].toNat ∧
    (stepPulses m s).pos[a] = s.pos[a] := by
  have hT := m.totalSteps.isLt
  have hp : pulses m s a = false := Bool.eq_false_iff.2 fun h => hsum.not_ge ((pulses_iff ha).1 h)
  rw [stepPulses_stepOut, stepPulses_bres, stepPulses_pos, bresAfter, posAfter, if_pos ha, hp, if_neg (by decide),
    if_neg (by decide), bresSum, word_toNat (by omega)]
  exact ⟨rfl, rfl, rfl⟩

end Pulses

/-- Settles O40: an axis that exists by whether its sum reaches T, and an absent one by `pulses_absent`. -/
theorem stepPulsesEachAxis : Obligations.StepPulsesEachAxis := by
  intro m s hdelta hbres t
  refine ⟨fun a ha => ⟨stepPulses_of_sum_ge ha (hbres a ha) (hdelta a), stepPulses_of_sum_lt ha⟩, fun a ha => ?_, rfl,
    rfl⟩
  have hp : pulses m s a = false := pulses_absent ha
  rw [stepPulses_stepOut, stepPulses_bres, stepPulses_pos, bresAfter, posAfter, if_neg (Nat.not_lt.2 ha), hp]
  exact ⟨rfl, rfl, rfl⟩

/-! ### STEP part 1 repeated (R145) -/

theorem stepPulses_iterate_keeps (m : Move) (s : State) (k : Nat) :
    ((stepPulses m)^[k] s).cfg = s.cfg ∧ ((stepPulses m)^[k] s).dirOut = s.dirOut := by
  induction k with
  | zero => exact ⟨rfl, rfl⟩
  | succ k ih => rw [Function.iterate_succ_apply']; exact ih

/-- The position `n` counts away from `p`, in the latched direction (R139). -/
def countedFrom (negative : Bool) (p n : Word) : Word := if negative then p - n else p + n

theorem countedFrom_zero (negative : Bool) (p : Word) : countedFrom negative p 0 = p := by
  cases negative <;> simp [countedFrom]

theorem countedFrom_succ (negative : Bool) (p : Word) (n : Nat) :
    countedFrom negative (countedFrom negative p (BitVec.ofNat 32 n)) 1 =
      countedFrom negative p (BitVec.ofNat 32 (n + 1)) := by
  cases negative
  · simp [countedFrom, BitVec.ofNat_add, add_assoc]
  · simp [countedFrom, BitVec.ofNat_add, sub_sub]

section Fairness

variable {m : Move} {s : State} {a : Fin 8} (ha : a.val < s.cfg.nAxes) (hT : 1 ≤ m.totalSteps.toNat)
  (hdelta : m.delta[a].toNat ≤ m.totalSteps.toNat)
include ha hT hdelta

/-- One step of an axis whose error term is the remainder of `x` by T: the new one is the remainder of `x + delta`, and
the axis moves by what the quotient grows. -/
theorem stepPulses_remainder {x : Nat} {p : Word} (hbres : s.bres[a].toNat = x % m.totalSteps.toNat)
    (hpos : s.pos[a] = countedFrom (s.dirOut.getLsbD a.val) p (BitVec.ofNat 32 (x / m.totalSteps.toNat))) :
    (stepPulses m s).bres[a].toNat = (x + m.delta[a].toNat) % m.totalSteps.toNat ∧
    (stepPulses m s).pos[a] = countedFrom (s.dirOut.getLsbD a.val) p
      (BitVec.ofNat 32 ((x + m.delta[a].toNat) / m.totalSteps.toNat)) := by
  have hlt := Nat.mod_lt x hT
  have hx := Nat.mod_add_div x m.totalSteps.toNat
  rcases Nat.lt_or_ge (s.bres[a].toNat + m.delta[a].toNat) m.totalSteps.toNat with hsum | hsum
  · obtain ⟨-, hb, hp⟩ := stepPulses_of_sum_lt ha hsum
    obtain ⟨hdiv, hmod⟩ := (Nat.div_mod_unique (a := x + m.delta[a].toNat) (d := x / m.totalSteps.toNat) hT).2
      ⟨by omega, hsum⟩
    rw [hb, hp, hdiv, hmod]
    exact ⟨rfl, hpos⟩
  · obtain ⟨-, hb, hp⟩ := stepPulses_of_sum_ge ha (by omega) hdelta hsum
    obtain ⟨hdiv, hmod⟩ := (Nat.div_mod_unique (a := x + m.delta[a].toNat) (d := x / m.totalSteps.toNat + 1)
      (c := (stepPulses m s).bres[a].toNat) hT).2 ⟨by rw [Nat.mul_succ]; omega, by omega⟩
    rw [hmod, hdiv, ← countedFrom_succ, ← hpos]
    exact ⟨rfl, hp⟩

/-- Bresenham's fairness: `k` steps from `T div 2` (R145 item b). -/
theorem stepPulses_iterate (hbres : s.bres[a].toNat = m.totalSteps.toNat / 2) (k : Nat) :
    ((stepPulses m)^[k] s).bres[a].toNat =
      (m.totalSteps.toNat / 2 + k * m.delta[a].toNat) % m.totalSteps.toNat ∧
    ((stepPulses m)^[k] s).pos[a] = countedFrom (s.dirOut.getLsbD a.val) s.pos[a]
      (BitVec.ofNat 32 ((m.totalSteps.toNat / 2 + k * m.delta[a].toNat) / m.totalSteps.toNat)) := by
  have hhalf : m.totalSteps.toNat / 2 < m.totalSteps.toNat := by omega
  induction k with
  | zero =>
    rw [Nat.zero_mul, Nat.add_zero, Nat.mod_eq_of_lt hhalf, Nat.div_eq_of_lt hhalf]
    exact ⟨hbres, (countedFrom_zero _ _).symm⟩
  | succ k ih =>
    obtain ⟨hcfg, hdir⟩ := stepPulses_iterate_keeps m s k
    obtain ⟨hb, hp⟩ := ih
    rw [Function.iterate_succ_apply', Nat.succ_mul, ← Nat.add_assoc, ← hdir]
    exact stepPulses_remainder (by rwa [hcfg]) hT hdelta hb (by rwa [hdir])

end Fairness

/-- Settles O41: after `k` steps by `stepPulses_iterate`, and `T·delta` adds `delta` to the quotient and nothing to the
remainder. -/
theorem bresenhamFairnessAndConservation : Obligations.BresenhamFairnessAndConservation := by
  intro m s a ha hT hdelta hbres
  have hhalf : m.totalSteps.toNat / 2 < m.totalSteps.toNat := by omega
  have hall := stepPulses_iterate ha hT hdelta hbres
  obtain ⟨hb, hp⟩ := hall m.totalSteps.toNat
  rw [Nat.add_mul_mod_self_left, Nat.mod_eq_of_lt hhalf, ← hbres] at hb
  rw [Nat.add_mul_div_left _ _ hT, Nat.div_eq_of_lt hhalf, Nat.zero_add, BitVec.ofNat_toNat, BitVec.setWidth_eq] at hp
  exact ⟨hall, BitVec.eq_of_toNat_eq hb, hp⟩

/-! ### STEP parts 3 and 4 (R140) -/

section Sample

variable {c : Config} {raw : Bool} {ch : Channel}

/-- DB_SAMPLE at the last of the differing samples: the level flips (R192). -/
theorem dbSample_of_flip (hraw : raw ≠ ch.level) (hcount : c.debounceSamples ≤ ch.count + 1) :
    dbSample c raw ch = (⟨raw, 0⟩, true) := by
  rw [dbSample, if_neg hraw, if_pos hcount]

/-- Any other sample keeps the level, and counts or starts the run again (R192). -/
theorem dbSample_of_noFlip (h : ¬(raw ≠ ch.level ∧ c.debounceSamples ≤ ch.count + 1)) :
    dbSample c raw ch = (⟨ch.level, if raw = ch.level then 0 else ch.count + 1⟩, false) := by
  by_cases hraw : raw = ch.level
  · rw [dbSample, if_pos hraw, if_pos hraw]
  · rw [dbSample, if_neg hraw, if_neg hraw, if_neg fun hcount => h ⟨hraw, hcount⟩]

end Sample

/-- A hit is a watched channel that flips to `escond` (R193). -/
theorem isHit_iff (m : Move) (s : State) (b : Fin 16) :
    isHit m s b = true ↔ watched s.cfg m b = true ∧
      (s.esIn b ≠ s.db[b].level ∧ s.cfg.debounceSamples ≤ s.db[b].count + 1) ∧ s.esIn b = m.escond := by
  by_cases hflip : s.esIn b ≠ s.db[b].level ∧ s.cfg.debounceSamples ≤ s.db[b].count + 1
  · obtain ⟨hraw, hcount⟩ := id hflip
    simp only [isHit, dbSample_of_flip hraw hcount, Bool.and_eq_true, beq_iff_eq, and_true]
    exact and_congr_right fun _ => (and_iff_right hflip).symm
  · simp only [isHit, dbSample_of_noFlip hflip, hflip, Bool.and_false, Bool.false_and, Bool.false_eq_true, false_and,
      and_false]

theorem stepEndstops_stepNo (m : Move) (s : State) :
    (stepEndstops m s).stepNo = if ∃ b, isHit m s b = true then m.totalSteps else s.stepNo + 1 := by
  simp only [stepEndstops, sampleWatched, List.any_eq_true, List.mem_finRange, true_and]

/-- Settles O42: the step count by whether some channel is a hit, each channel by its sample. -/
theorem endstopHitEndsTheMove : Obligations.EndstopHitEndsTheMove := by
  intro m s sees flips t
  have hhit : (∃ b, isHit m s b = true) ↔ ∃ b, sees b ∧ flips b ∧ s.esIn b = m.escond :=
    exists_congr fun b => by rw [isHit_iff, watched_iff]
  refine ⟨fun h => ?_, fun h => ?_, fun b hsees => ?_, fun b hsees hflip => ?_, fun b hsees hflip => ?_,
    stepEndstops_frame m s⟩
  · exact (stepEndstops_stepNo m s).trans (if_pos (hhit.2 h))
  · exact (stepEndstops_stepNo m s).trans (if_neg (h ∘ hhit.1))
  · exact (stepEndstops_db m s b).trans (if_neg (hsees ∘ (watched_iff s.cfg m b).1))
  · obtain ⟨hraw, hcount⟩ := hflip
    rw [stepEndstops_db, if_pos ((watched_iff s.cfg m b).2 hsees), dbSample_of_flip hraw hcount]
  · rw [stepEndstops_db, if_pos ((watched_iff s.cfg m b).2 hsees), dbSample_of_noFlip hflip]
    exact ⟨rfl, rfl⟩

/-! ### The real fire (R106, R138) -/

/-- The state a real fire hands to DDA_FIRE: after the count of the TICK, with the new anchor and the compare disarmed
(R101, R106). -/
def State.fired (s : State) : State := { countTick s with anchor := s.ocrA, nst := 0, stepArmed := false }

theorem tick_eq_ddaFire {s : State} (h : s.realFireNext = true) :
    tick s = if s.tickServiceNext then cmpB (ddaFire s.fired) else ddaFire s.fired :=
  tick_of_realFire h

/-- The TICK of a real fire leaves the engine, the pins and the step compare as DDA_FIRE does: the tick service after it
writes none of them (R109, R112). -/
theorem tick_same_ddaFire {s : State} (h : s.realFireNext = true) :
    let u := ddaFire s.fired
    SameEngine u (tick s) ∧ SameAxes u (tick s) ∧ (tick s).head = u.head ∧ (tick s).cfg = u.cfg ∧
      (tick s).ocrA = u.ocrA ∧ (tick s).stepArmed = u.stepArmed ∧ (tick s).nst = u.nst := by
  obtain ⟨hengine, haxes, ⟨hhead, -⟩, ⟨hcfg, -⟩, -, hocr, harm, hnst, -⟩ :=
    tickService_same s.tickServiceNext (ddaFire s.fired)
  rw [tick_eq_ddaFire h]
  exact ⟨hengine, haxes, hhead, hcfg, hocr, harm, hnst⟩

section DdaFire

variable {s : State} (hlive : s.live = true)
include hlive

theorem ddaFire_of_noop (hdsp : s.dsp = true) : ddaFire s = State.arm { s with dsp := false } s.cur.toNat := by
  rw [ddaFire, if_pos hlive, if_pos hdsp, callSched_eq_arm]

variable (hdsp : s.dsp = false)
include hdsp

theorem ddaFire_of_dwell (hdwell : s.liveMove.dwell = true) : ddaFire s = complete s := by
  rw [ddaFire, if_pos hlive, if_neg (Bool.eq_false_iff.1 hdsp), if_pos hdwell]

theorem ddaFire_of_steps (hdwell : s.liveMove.dwell = false) : ddaFire s = stepDda s := by
  rw [ddaFire, if_pos hlive, if_neg (Bool.eq_false_iff.1 hdsp), if_neg (Bool.eq_false_iff.1 hdwell)]

end DdaFire

/-- Settles O38: DDA_FIRE clears `dsp` and sets the compare, and the count and the tick service do the rest. -/
theorem noopFireEmitsNoStep : Obligations.NoopFireEmitsNoStep := by
  intro s wf hlive hdsp hfire
  have hset : ScheduledFor (State.arm { s.fired with dsp := false } s.cur.toNat) s.ocrA s.cur.toNat :=
    arm_scheduledFor (s := { s.fired with dsp := false }) _ wf (ocrA_lt_of_realFire hfire)
  have hsame := tick_same_ddaFire hfire
  rw [ddaFire_of_noop (s := s.fired) hlive hdsp] at hsame
  obtain ⟨⟨hlive', hno, hbres, hcur, -, -, -, hoff, hdb⟩, ⟨hpos, hout, hdir, -, hpulse⟩, -, hcfg, hocr, harm, hnst⟩ :=
    hsame
  refine ⟨hoff, hno, hpos, hbres, hdb, hcur, hlive'.trans hlive, hdir, ?_, hout, hpulse⟩
  simp only [ScheduledFor, hcfg, hocr, harm, hnst]
  exact hset

/-- COMPLETE makes no pulse, and over a ring that is then empty it leaves the DIR lines and the debouncer (R144). -/
theorem complete_emits_nothing (s : State) :
    (complete s).head = nextIndex s.cfg s.head ∧ (complete s).pos = s.pos ∧ (complete s).stepOut = s.stepOut ∧
      (complete s).pulseTimer = s.pulseTimer ∧
      ((complete s).head = s.tail →
        (complete s).live = false ∧ (complete s).dirOut = s.dirOut ∧ (complete s).db = s.db) := by
  refine ⟨complete_head s, complete_pos s, complete_stepOut s, complete_pulseTimer s, fun h => ?_⟩
  rw [complete_of_last ((complete_head s).symm.trans h)]
  exact ⟨rfl, rfl, rfl⟩

/-- Settles O39: DDA_FIRE of a dwell is COMPLETE. -/
theorem dwellFireCompletesWithoutPulse : Obligations.DwellFireCompletesWithoutPulse := by
  intro s hlive hdsp hdwell hfire
  have hsame := tick_same_ddaFire hfire
  rw [ddaFire_of_dwell (s := s.fired) hlive hdsp hdwell] at hsame
  obtain ⟨⟨hlive', -, -, -, -, -, -, -, hdb⟩, ⟨hpos, hout, hdir, -, hpulse⟩, hhead, -⟩ := hsame
  dsimp only
  rw [hhead, hpos, hout, hpulse, hlive', hdir, hdb]
  exact complete_emits_nothing s.fired

/-! ### STEP (R141, R143) -/

/-- Part 5: COMPLETE at the end of the move, and else the next interval (R141). -/
theorem stepNext_eq (s : State) : stepNext s =
    if s.stepNo = s.liveMove.totalSteps then complete s
    else callSched (nextInterval s).1.toNat { (nextInterval s).2.2 with cur := (nextInterval s).1 } := by
  have hend : (nextInterval s).2.1 = true ↔ s.stepNo = s.liveMove.totalSteps := by
    rw [nextInterval_ended_iff, BitVec.toNat_inj]
  simp only [stepNext, hend]
  split
  · next h => rw [nextInterval_at_end (congrArg BitVec.toNat h)]
  · rfl

/-- Parts 1, 3 and 4 leave the live Move in its slot (20_memory.md R72). -/
theorem stepEndstops_stepPulses_liveMove (m : Move) (s : State) :
    (stepEndstops m (stepPulses m s)).liveMove = s.liveMove :=
  liveMove_congr (by simp) (by simp) (by simp)

/-- Settles O59: DDA_FIRE of a live Move with steps is STEP, whose parts 1, 3 and 4 leave the Move that part 5 asks
for. -/
theorem stepRunsItsPartsInOrder : Obligations.StepRunsItsPartsInOrder := by
  intro s hlive hdsp hdwell hfire m u v next w
  have hmove : v.liveMove = m := stepEndstops_stepPulses_liveMove m u
  have hdda : ddaFire s.fired = stepNext v := ddaFire_of_steps hlive hdsp hdwell
  have hnext : stepNext v = w := by rw [stepNext_eq, hmove]
  rw [tick_eq_ddaFire hfire, hdda, hnext]

/-! ### The DIR lines (R145 item c) -/

/-- If the DIR lines differ in `t`, then `t` has the next slot at its head and a live Move in its no-op interval. -/
def TurnsAtBoundary (s t : State) : Prop :=
  t.dirOut ≠ s.dirOut → t.head = nextIndex s.cfg s.head ∧ t.live = true ∧ t.dsp = true

/-- LOAD of a dwell leaves the DIR lines; of a Move with steps that changes them it sets `dsp` (R136, R137). -/
theorem load_dsp_of_turn {s : State} (h : (load s).dirOut ≠ s.dirOut) : (load s).dsp = true := by
  rw [load_dirOut] at h
  cases hd : s.liveMove.dwell with
  | true => simp [hd] at h
  | false =>
    rw [hd] at h
    exact (load_dsp_of_steps hd).2 (Ne.symm h)

theorem turnsAtBoundary_complete (s : State) : TurnsAtBoundary s (complete s) := by
  intro hturn
  refine ⟨complete_head s, ?_⟩
  by_cases hlast : nextIndex s.cfg s.head = s.tail
  · rw [complete_of_last hlast] at hturn
    exact absurd rfl hturn
  · obtain ⟨hload, hlive, -⟩ := (completeAdvancesTheHead s).2 hlast
    refine ⟨hlive, ?_⟩
    rw [hload] at hturn ⊢
    exact load_dsp_of_turn hturn

/-- Within a move STEP leaves the DIR lines (R141). -/
theorem turnsAtBoundary_stepNext (s : State) : TurnsAtBoundary s (stepNext s) := by
  rw [stepNext_eq]
  split
  · exact turnsAtBoundary_complete s
  · exact fun hturn => absurd (by simp) hturn

theorem turnsAtBoundary_ddaFire (s : State) : TurnsAtBoundary s (ddaFire s) := by
  simp only [ddaFire]
  split
  · split
    · exact fun hturn => absurd rfl hturn
    · split
      · exact turnsAtBoundary_complete s
      · have hstep := turnsAtBoundary_stepNext (stepEndstops s.liveMove (stepPulses s.liveMove s))
        simpa [TurnsAtBoundary, stepDda] using hstep
  · exact fun hturn => absurd rfl hturn

theorem nextIndex_ne {c : Config} {i : Nat} (hcap : 1 ≤ c.queueCapacity) (hi : i < c.ringMod) : nextIndex c i ≠ i := by
  have hring : 2 ≤ c.ringMod := Nat.mul_le_mul_left 2 hcap
  rw [nextIndex, succ_mod_small hi]
  split <;> omega

/-- Settles O43: only a real fire changes the DIR lines, and there only a COMPLETE whose LOAD starts a no-op interval. -/
theorem directionChangesOnlyAtMoveBoundary : Obligations.DirectionChangesOnlyAtMoveBoundary := by
  intro s h hturn
  obtain ⟨wf, ⟨-, -, -, -, hhead, -⟩, -, -, ⟨hmode, -⟩, -⟩ := id h
  cases hfire : s.realFireNext with
  | false =>
    obtain ⟨-, -, -, -, hdir, -⟩ := tick_noRealFire s hfire
    exact absurd hdir hturn
  | true =>
    obtain ⟨-, harm, -, -⟩ := s.realFireNext_iff.1 hfire
    obtain ⟨-, hmatch, -, -, hnoop⟩ := realFireMovesTheAnchor s wf hfire (hmode.symm.trans harm)
    have hboundary : TurnsAtBoundary s (tick s) := by
      obtain ⟨⟨hlive, -, -, -, -, -, -, hdsp, -⟩, ⟨-, -, hdir, -⟩, hhead, -⟩ := tick_same_ddaFire hfire
      rw [TurnsAtBoundary, hdir, hhead, hlive, hdsp]
      exact turnsAtBoundary_ddaFire s.fired
    obtain ⟨hnext, hlive, hdsp⟩ := hboundary hturn
    refine ⟨?_, hlive, hdsp, hmatch ▸ hnoop hlive hdsp⟩
    rw [hnext]
    exact nextIndex_ne (WF.cap_pos wf) hhead

/-! ### The fall of the STEP lines (R142) -/

/-- While running a TICK without a real fire runs the STEP lines and the pulse timer down (R101). -/
theorem tick_pulse_of_noRealFire {s : State} (hrun : s.running = true) (hfire : s.realFireNext = false) :
    (tick s).stepOut = (if s.pulseTimer = 1 then 0 else s.stepOut) ∧ (tick s).pulseTimer = s.pulseTimer - 1 := by
  rcases tick_cases s with ⟨h, -⟩ | ⟨-, u, e, ⟨-, -, rfl⟩ | ⟨-, -, rfl⟩ | ⟨h, -, -⟩⟩
  · rw [hrun] at h; cases h
  · rw [e]; split <;> exact ⟨rfl, rfl⟩
  · rw [e]; split <;> exact ⟨rfl, rfl⟩
  · rw [hfire] at h; cases h

theorem tick_iterate_running (s : State) (k : Nat) : (tick^[k] s).running = s.running := by
  induction k with
  | zero => rfl
  | succ k ih => rw [Function.iterate_succ_apply', tick_running, ih]

/-- The STEP lines stay up and the timer counts down while a tick of the pulse is left. -/
theorem tick_iterate_pulse {s : State} (hrun : s.running = true) {k : Nat} (hk : k < s.pulseTimer)
    (hfire : ∀ j, j < s.pulseTimer → (tick^[j] s).realFireNext = false) :
    (tick^[k] s).stepOut = s.stepOut ∧ (tick^[k] s).pulseTimer = s.pulseTimer - k := by
  induction k with
  | zero => exact ⟨rfl, rfl⟩
  | succ k ih =>
    obtain ⟨hout, htimer⟩ := ih (by omega)
    obtain ⟨hout', htimer'⟩ := tick_pulse_of_noRealFire ((tick_iterate_running s k).trans hrun) (hfire k (by omega))
    rw [Function.iterate_succ_apply', hout', htimer', htimer, if_neg (by omega)]
    exact ⟨hout, Nat.sub_sub _ _ _⟩

/-- Settles O46: before the last TICK of the pulse by the countdown, and in it the timer is 1. -/
theorem stepLinesFallTogether : Obligations.StepLinesFallTogether := by
  intro s hrun hpulse hfire
  refine ⟨fun k hk => tick_iterate_pulse hrun hk hfire, ?_⟩
  obtain ⟨p, hp⟩ : ∃ p, s.pulseTimer = p + 1 := ⟨_, (Nat.sub_add_cancel hpulse).symm⟩
  obtain ⟨-, htimer⟩ := tick_iterate_pulse hrun (k := p) (by omega) hfire
  have hone : (tick^[p] s).pulseTimer = 1 := by omega
  obtain ⟨hout', htimer'⟩ := tick_pulse_of_noRealFire ((tick_iterate_running s p).trans hrun) (hfire p (by omega))
  rw [hp, Function.iterate_succ_apply', hout', htimer', hone]
  exact ⟨rfl, rfl⟩

end Sys2Proof.Machine
end

section
/-! PROOFS. 43_move_queue.md: DECODE_MOVE (O7), VALID (O14), PUSH and PUSH_HOME (O15, O16), and what an accepted push does
to the ring and the engine (O17). -/

namespace Sys2Proof.Machine

/-! ### DECODE_MOVE (R163) -/

theorem mvDir_getLsbD (mv : Vector Word 16) (b : Fin 8) : (mvDir mv).getLsbD b.val = mv[0].getLsbD b.val := by
  rw [mvDir, BitVec.getLsbD_extractLsb', Nat.zero_add, decide_eq_true b.isLt, Bool.true_and]

/-- Settles O7: the directions bit by bit and the deltas axis by axis; every other field is its staging word. -/
theorem decodeMoveTakesEachField : Obligations.DecodeMoveTakesEachField :=
  fun mv esmask escond => ⟨mvDir_getLsbD mv, rfl, rfl, rfl, rfl, rfl, rfl, rfl, rfl, decodeMove_delta mv esmask escond,
    rfl, rfl⟩

/-! ### VALID (R159) -/

section Valid

variable {c : Config} {mv : Vector Word 16} {home : Bool} {esmask : BitVec 16}

/-- `ushiftRight_eq_zero_iff` over the bits that exist. -/
theorem ushiftRight_eq_zero_iff_fin {w : Nat} (v : BitVec w) (n : Nat) :
    v >>> n = 0 ↔ ∀ b : Fin w, n ≤ b.val → v.getLsbD b.val = false := by
  rw [ushiftRight_eq_zero_iff]
  refine ⟨fun h b hb => h b.val hb, fun h b hb => ?_⟩
  by_cases hw : b < w
  · exact h ⟨b, hw⟩ hb
  · exact BitVec.getLsbD_of_ge v b (Nat.not_lt.1 hw)

theorem mvReserved_eq_zero_iff :
    mvReserved mv = 0 ↔ ∀ b : Fin 32, 9 ≤ b.val → mv[0].getLsbD b.val = false := by
  have hnat : (mvReserved mv).toNat = (mv[0] >>> 9).toNat := by
    rw [mvReserved, BitVec.extractLsb'_toNat, BitVec.toNat_ushiftRight]
    exact Nat.mod_eq_of_lt (by omega)
  rw [← ushiftRight_eq_zero_iff_fin, BitVec.toNat_eq, hnat, BitVec.toNat_eq]
  rfl

/-- The line `common`: no reserved bit, no bit and no delta of an absent axis. -/
theorem validCommon_iff : validCommon c mv = true ↔
    (∀ b : Fin 32, 9 ≤ b.val → mv[0].getLsbD b.val = false) ∧
    (∀ b : Fin 8, c.nAxes ≤ b.val → mv[0].getLsbD b.val = false) ∧
    (∀ a : Fin 8, c.nAxes ≤ a.val → mvAxis mv a = 0) := by
  simp only [validCommon, Bool.and_eq_true, beq_iff_eq, mvReserved_eq_zero_iff, ushiftRight_eq_zero_iff_fin,
    mvDir_getLsbD, absentAxesStill_iff, and_assoc]

theorem validDwell_iff : validDwell mv home = true ↔
    home = false ∧ mv[1] = 0 ∧ (∀ a : Fin 8, mvAxis mv a = 0) ∧ mv[5] = 0 ∧ mv[6] = 0 := by
  simp only [validDwell, Bool.and_eq_true, Bool.not_eq_true', beq_iff_eq, List.all_eq_true, List.mem_finRange,
    forall_const, and_assoc]
  rfl

/-- What a maximum is: for a word of at least 1, an upper bound of the deltas that one of them equals. -/
theorem eq_maxDelta_iff {t : Word} (ht : 1 ≤ t.toNat) : t.toNat = maxDelta c mv ↔
    (∀ a : Fin 8, a.val < c.nAxes → (mvAxis mv a).toNat ≤ t.toNat) ∧
    ∃ a : Fin 8, a.val < c.nAxes ∧ mvAxis mv a = t := by
  constructor
  · intro h
    obtain ⟨a, ha, hmax⟩ := maxDelta_attained (h ▸ ht)
    exact ⟨fun a ha => h ▸ le_maxDelta ha, a, ha, BitVec.eq_of_toNat_eq (hmax.trans h.symm)⟩
  · rintro ⟨hle, a, ha, rfl⟩
    have hge : (mvAxis mv a).toNat ≤ maxDelta c mv := le_maxDelta ha
    obtain ⟨b, hb, hmax⟩ := maxDelta_attained (ht.trans hge)
    exact Nat.le_antisymm hge (hmax ▸ hle b hb)

theorem validSteps_iff : validSteps c mv = true ↔
    1 ≤ mv[1].toNat ∧ (∀ a : Fin 8, a.val < c.nAxes → (mvAxis mv a).toNat ≤ mv[1].toNat) ∧
    (∃ a : Fin 8, a.val < c.nAxes ∧ mvAxis mv a = mv[1]) ∧
    mv[5].toNat ≤ mv[6].toNat ∧ mv[6].toNat ≤ mv[1].toNat ∧ 1 ≤ mv[2].toNat := by
  simp only [validSteps, Bool.and_eq_true, decide_eq_true_eq, beq_iff_eq, and_assoc]
  refine and_congr_right fun ht => ?_
  rw [← and_assoc (a := ∀ a : Fin 8, _)]
  exact and_congr_left' (eq_maxDelta_iff ht)

theorem validHome_iff : validHome c home esmask = true ↔
    (home = true → ∀ b : Fin 16, 2 * c.nAxes ≤ b.val → esmask.getLsbD b.val = false) := by
  rw [← ushiftRight_eq_zero_iff_fin]
  cases home <;> simp [validHome]

end Valid

/-- Settles O14, line by line of R159. -/
theorem validIsTheConjunction : Obligations.ValidIsTheConjunction := by
  intro c mv home esmask _
  have hbody : (if mvDwell mv then validDwell mv home else validSteps c mv) = true ↔
      (mv[0].getLsbD 8 = true → validDwell mv home = true) ∧
      (mv[0].getLsbD 8 = false → validSteps c mv = true) := by
    unfold mvDwell
    cases mv[0].getLsbD 8 <;> simp
  simp only [valid, Bool.and_eq_true, validCommon_iff, hbody, validDwell_iff, validSteps_iff, validHome_iff, and_assoc]
  rfl

/-! ### PUSH and PUSH_HOME (R161, R162) -/

section Push

variable {home : Bool} {esmask : BitVec 16} {escond : Bool} {s : State}

theorem pushCommand_of_not_running (hrun : s.running = false) :
    pushCommand home esmask escond s = s.answer .notInit := by
  simp [pushCommand, hrun]

variable (hrun : s.running = true)
include hrun

theorem pushCommand_of_estopped (hest : s.estopped = true) :
    pushCommand home esmask escond s = s.answer .eStopped := by
  simp [pushCommand, hrun, hest]

variable (hest : s.estopped = false)
include hest

theorem pushCommand_of_invalid (hvalid : valid s.cfg s.mv home esmask = false) :
    pushCommand home esmask escond s = s.answer .badMove := by
  simp [pushCommand, hrun, hest, hvalid]

variable (hvalid : valid s.cfg s.mv home esmask = true)
include hvalid

theorem pushCommand_of_full (hfull : s.qlen = s.cfg.queueCapacity) :
    pushCommand home esmask escond s = s.answer .queueFullBlocked := by
  simp [pushCommand, State.queueFull, hrun, hest, hvalid, hfull]

theorem pushCommand_accepted (hfull : s.qlen ≠ s.cfg.queueCapacity) :
    pushCommand home esmask escond s = (enqueue (decodeMove s.mv esmask escond) s).answer .ok := by
  simp [pushCommand, State.queueFull, hrun, hest, hvalid, hfull]

end Push

theorem enqueue_of_live {s : State} (m : Move) (h : s.live = true) : enqueue m s = s.pushed m := by
  rw [enqueue_eq, if_pos h]

theorem enqueue_of_not_live {s : State} (m : Move) (h : s.live = false) :
    enqueue m s = load { s.pushed m with anchor := s.cnt } := by
  rw [enqueue_eq, h]
  rfl

/-- PUSH and PUSH_HOME make the same tests and the same writes; they differ in `home`, the mask and the condition. -/
theorem exec_follows_its_tests {i : Instr} {home : Bool} {esmask : BitVec 16} {escond : Bool} {s : State}
    (hexec : exec i s = .next (pushCommand home esmask escond s)) :
    (s.running = false → exec i s = .next { s with result := .notInit }) ∧
    (s.running = true → s.estopped = true → exec i s = .next { s with result := .eStopped }) ∧
    (s.running = true → s.estopped = false → valid s.cfg s.mv home esmask = false →
      exec i s = .next { s with result := .badMove }) ∧
    (s.running = true → s.estopped = false → valid s.cfg s.mv home esmask = true → s.qlen = s.cfg.queueCapacity →
      exec i s = .next { s with result := .queueFullBlocked }) ∧
    (s.running = true → s.estopped = false → valid s.cfg s.mv home esmask = true → s.qlen ≠ s.cfg.queueCapacity →
      ∃ u : State,
        u = { s with slots := u.slots, tail := (s.tail + 1) % (2 * s.cfg.queueCapacity) } ∧
        Memory.readSlot u.slots (s.tail % s.cfg.queueCapacity) = some (decodeMove s.mv esmask escond) ∧
        (∀ k, k ≠ s.tail % s.cfg.queueCapacity → Memory.readSlot u.slots k = Memory.readSlot s.slots k) ∧
        (s.live = true → exec i s = .next { u with result := .ok }) ∧
        (s.live = false → exec i s = .next { load { u with anchor := s.cnt } with result := .ok })) := by
  rw [hexec]
  refine ⟨fun hrun => ?_, fun hrun hest => ?_, fun hrun hest hvalid => ?_, fun hrun hest hvalid hfull => ?_,
    fun hrun hest hvalid hfull => ⟨s.pushed (decodeMove s.mv esmask escond), rfl, readSlot_writeSlot_same _ _ _,
      fun k hk => readSlot_writeSlot_other _ _ hk, fun hlive => ?_, fun hlive => ?_⟩⟩
  · rw [pushCommand_of_not_running hrun]; rfl
  · rw [pushCommand_of_estopped hrun hest]; rfl
  · rw [pushCommand_of_invalid hrun hest hvalid]; rfl
  · rw [pushCommand_of_full hrun hest hvalid hfull]; rfl
  · rw [pushCommand_accepted hrun hest hvalid hfull, enqueue_of_live _ hlive]; rfl
  · rw [pushCommand_accepted hrun hest hvalid hfull, enqueue_of_not_live _ hlive]; rfl

/-- Settles O15: PUSH is the common command with home = 0 and an empty mask. -/
theorem pushFollowsItsTests : Obligations.PushFollowsItsTests := fun _ => exec_follows_its_tests rfl

/-- Settles O16: PUSH_HOME is the common command with home = 1 and the operands of its word. -/
theorem pushHomeFollowsItsTests : Obligations.PushHomeFollowsItsTests := fun _ _ _ => exec_follows_its_tests rfl

/-! ### An accepted push (R156, R157) -/

/-- Every refusal answers a code of its own, so RESULT is Ok only in the accepted branch (R161). -/
theorem pushCommand_accepted_of_ok {home : Bool} {esmask : BitVec 16} {escond : Bool} {s : State}
    (h : (pushCommand home esmask escond s).result = .ok) :
    s.qlen ≠ s.cfg.queueCapacity ∧
      pushCommand home esmask escond s = (enqueue (decodeMove s.mv esmask escond) s).answer .ok := by
  cases hrun : s.running with
  | false => rw [pushCommand_of_not_running hrun] at h; cases h
  | true => ?_
  cases hest : s.estopped with
  | true => rw [pushCommand_of_estopped hrun hest] at h; cases h
  | false => ?_
  cases hvalid : valid s.cfg s.mv home esmask with
  | false => rw [pushCommand_of_invalid hrun hest hvalid] at h; cases h
  | true => ?_
  by_cases hfull : s.qlen = s.cfg.queueCapacity
  · rw [pushCommand_of_full hrun hest hvalid hfull] at h; cases h
  · exact ⟨hfull, pushCommand_accepted hrun hest hvalid hfull⟩

theorem enqueue_live (m : Move) (s : State) : (enqueue m s).live = true := by
  cases hlive : s.live with
  | true => rw [enqueue_of_live m hlive]; exact hlive
  | false => rw [enqueue_of_not_live m hlive]; exact (load_starts _).1

theorem enqueue_tail (m : Move) (s : State) : (enqueue m s).tail = (s.pushed m).tail := by
  cases hlive : s.live with
  | true => rw [enqueue_of_live m hlive]
  | false => rw [enqueue_of_not_live m hlive]; exact load_tail _

theorem enqueue_qlen (m : Move) (s : State) : (enqueue m s).qlen = (s.pushed m).qlen := by
  rw [State.qlen, enqueue_cfg, enqueue_tail, enqueue_head]
  rfl

theorem pushCommand_lengthens {home : Bool} {esmask : BitVec 16} {escond : Bool} {s : State} (h : Inv s)
    (hok : (pushCommand home esmask escond s).result = .ok) :
    (pushCommand home esmask escond s).qlen = s.qlen + 1 ∧ (pushCommand home esmask escond s).live = true := by
  obtain ⟨-, ⟨-, -, -, -, hhead, htail, -⟩, -, ⟨hle, -⟩, -⟩ := h
  obtain ⟨hfull, e⟩ := pushCommand_accepted_of_ok hok
  rw [e]
  exact ⟨(enqueue_qlen _ s).trans (qlen_pushed _ hhead htail (lt_of_le_of_ne hle hfull)), enqueue_live _ s⟩

/-- Settles O17: an Ok answer is the accepted branch, and the frame of both commands gives the rest. -/
theorem acceptedPushLengthensTheQueue : Obligations.AcceptedPushLengthensTheQueue := by
  intro i s t hinv hi ht hok
  obtain ⟨home, esmask, escond, rfl⟩ : ∃ home esmask escond, t = pushCommand home esmask escond s := by
    rcases hi with rfl | ⟨esmask, escond, rfl⟩ <;> cases ht <;> exact ⟨_, _, _, rfl⟩
  obtain ⟨hq, hlive⟩ := pushCommand_lengthens hinv hok
  refine ⟨hq, hlive, ?_⟩
  rw [pushCommand_frame]
  exact ⟨rfl, rfl, rfl, rfl, rfl, rfl, rfl, rfl, rfl, rfl, hok, rfl, rfl⟩

end Sys2Proof.Machine
end

section
/-! PROOFS. 44_controller_commands.md: the reserved words (O5), NOP, INIT, ESTOP and SETPOS (O18 to O21), which command is
accepted when (O22), and the step that runs a command (O53). -/

namespace Sys2Proof.Machine

/-! ### COMMAND (R175, R180) -/

theorem command_of_decode {w : Word} {i : Instr} (h : decode w = some i) (s : State) : command w s = exec i s := by
  rw [command, h]

theorem command_of_reserved {w : Word} (h : decode w = none) (s : State) :
    command w s = .next (s.answer .badCommand) := by
  rw [command, h]
  rfl

/-! ### The reserved words (R88) -/

/-- The operand bits 24:8 of format C, `sot` over `esmask` (R81). -/
def operandField (w : Word) : BitVec 17 := w.extractLsb' 8 17

/-- `w` meets one of the grounds of R88. -/
def MeetsRejectGround (w : Word) : Prop :=
  6 ≤ (opField w).toNat ∨ reservedField w ≠ 0 ∨ (opField w ≠ 0x03 ∧ operandField w ≠ 0)

/-- A word is its reserved bits, its operand bits and its `op` put together. -/
theorem append_operandField (w : Word) : reservedField w ++ operandField w ++ opField w = w := by
  simp only [reservedField, operandField, opField, BitVec.extractLsb'_append_extractLsb'_eq_extractLsb']
  exact BitVec.extractLsb'_eq_self

/-- No command word meets a ground: five are single words, and PUSH_HOME's has `op` 0x03 and no reserved bit. -/
theorem not_meetsRejectGround_encode (i : Instr) : ¬MeetsRejectGround (encode i) := by
  unfold MeetsRejectGround
  cases i with
  | nop => decide
  | init => decide
  | push => decide
  | pushHome esmask sot =>
    have hrow : rowPushHome.selects (encode (.pushHome esmask sot)) = true :=
      (selects_iff_exists_encode (row_mem_opcodeMap (.pushHome esmask sot)) _).2 ⟨_, rfl, rfl⟩
    obtain ⟨hop, hres⟩ := fields_of_rowPushHome_selects hrow
    simp [hop, hres]
  | estop => decide
  | setpos => decide

/-- An `op` below 6 other than PUSH_HOME's, with every other bit 0, is the word of a command. -/
theorem exists_encode_eq_op {op : BitVec 8} (h : op.toNat < 6) (h3 : op ≠ 0x03) :
    ∃ i : Instr, encode i = 0#7 ++ 0#17 ++ op := by
  obtain ⟨n, rfl⟩ : ∃ n : Fin 6, op = BitVec.ofNat 8 n.val := ⟨⟨op.toNat, h⟩, by simp⟩
  match n with
  | 0 => exact ⟨.nop, rfl⟩
  | 1 => exact ⟨.init, rfl⟩
  | 2 => exact ⟨.push, rfl⟩
  | 3 => exact absurd rfl h3
  | 4 => exact ⟨.estop, rfl⟩
  | 5 => exact ⟨.setpos, rfl⟩

/-- A word that meets no ground is a command's: PUSH_HOME's operands are free, every other word is its `op`. -/
theorem exists_encode_of_not_meetsRejectGround {w : Word} (h : ¬MeetsRejectGround w) : ∃ i : Instr, encode i = w := by
  simp only [MeetsRejectGround, not_or, not_and, not_le, not_not] at h
  obtain ⟨hop, hres, hoperand⟩ := h
  by_cases h3 : opField w = 0x03
  · have e := append_fields w
    rw [h3, hres] at e
    exact ⟨.pushHome _ _, e⟩
  · have e := append_operandField w
    rw [hres, hoperand h3] at e
    rw [← e]
    exact exists_encode_eq_op hop h3

theorem decode_eq_none_iff_meetsRejectGround (w : Word) : decode w = none ↔ MeetsRejectGround w := by
  constructor
  · intro h
    by_contra hg
    obtain ⟨i, rfl⟩ := exists_encode_of_not_meetsRejectGround hg
    cases (decode_encode i).symm.trans h
  · intro h
    rw [Option.eq_none_iff_forall_ne_some]
    intro i hi
    rw [← encode_of_decode hi] at h
    exact not_meetsRejectGround_encode i h

/-- Settles O5: the words that meet no ground of R88 are those of the commands, and any other answers BadCommand. -/
theorem reservedWordsAnswerBadCommand : Obligations.ReservedWordsAnswerBadCommand :=
  fun w s => ⟨decode_eq_none_iff_meetsRejectGround w, fun h => (hostWrite_cmd w s).trans (command_of_reserved h s)⟩

/-! ### NOP and ESTOP (R178, R179) -/

/-- Settles O18: the command is its answer. -/
theorem nopWritesOnlyResult : Obligations.NopWritesOnlyResult := fun _ => rfl

/-- Settles O20: STOP and the cleared engine, field by field. -/
theorem estopEffect_eq : Obligations.EstopEffect := fun _ => rfl

/-! ### INIT (R177) -/

theorem initBusy_iff (s : State) :
    s.initBusy = true ↔ s.running = true ∧ s.estopped = false ∧ ¬(s.head = s.tail ∧ s.live = false) := by
  simp only [State.initBusy, Bool.and_eq_true, Bool.not_eq_true', ← idle_iff, Bool.not_eq_true, and_assoc]

theorem exec_init_of_busy {s : State} (h : s.initBusy = true) : exec .init s = .next (s.answer .busy) := by
  rw [exec, execInit, if_pos h]

theorem exec_init_of_not_busy {s : State} (h : ¬s.initBusy = true) :
    exec .init s = .next ((initEffect s).answer .ok) := by
  rw [exec, execInit, if_neg h]

/-- Settles O19: INIT is refused where `initBusy`, and else it is TIMER_INIT and the cleared engine. -/
theorem initEffectAndRefusal : Obligations.InitEffectAndRefusal :=
  fun s => ⟨fun h => exec_init_of_busy ((initBusy_iff s).2 h),
    fun h => exec_init_of_not_busy fun hbusy => h ((initBusy_iff s).1 hbusy)⟩

/-! ### SETPOS (R176) -/

theorem setPositions_pos (s : State) (a : Fin 8) :
    (setPositions s).pos[a] = if a.val < s.cfg.nAxes then mvAxis s.mv a else s.pos[a] := by
  simp [setPositions]

theorem exec_setpos_of_idle {s : State} (h : s.idle = true) :
    exec .setpos s = .next ((setPositions s).answer .ok) := by
  rw [exec, execSetpos, if_pos h]

theorem exec_setpos_of_not_idle {s : State} (h : ¬s.idle = true) : exec .setpos s = .next (s.answer .notIdle) := by
  rw [exec, execSetpos, if_neg h]

/-- Settles O21, by whether the block is idle, and there by whether the axis exists. -/
theorem setposEffectAndRefusal : Obligations.SetposEffectAndRefusal := by
  intro s
  refine ⟨fun h => ⟨_, exec_setpos_of_idle ((idle_iff s).2 h), rfl, fun a ha => ?_, fun a ha => ?_, rfl⟩,
    fun h => exec_setpos_of_not_idle fun hidle => h ((idle_iff s).1 hidle)⟩
  · exact (setPositions_pos s a).trans (if_pos ha)
  · exact (setPositions_pos s a).trans (if_neg (Nat.not_lt.2 ha))

/-! ### Which command is accepted when (R182) -/

/-- What a push answers between INIT and ESTOP, by its last two tests (R161, R162). -/
theorem pushCommand_result {home : Bool} {esmask : BitVec 16} {escond : Bool} {s : State} (hrun : s.running = true)
    (hest : s.estopped = false) :
    (pushCommand home esmask escond s).result = .ok ∨ (pushCommand home esmask escond s).result = .badMove ∨
      (s.qlen = s.cfg.queueCapacity ∧ (pushCommand home esmask escond s).result = .queueFullBlocked) := by
  cases hvalid : valid s.cfg s.mv home esmask with
  | false => rw [pushCommand_of_invalid hrun hest hvalid]; exact .inr (.inl rfl)
  | true => ?_
  by_cases hfull : s.qlen = s.cfg.queueCapacity
  · rw [pushCommand_of_full hrun hest hvalid hfull]; exact .inr (.inr ⟨hfull, rfl⟩)
  · rw [pushCommand_accepted hrun hest hvalid hfull]; exact .inl rfl

section Table

variable {s : State} (h : Inv s)
include h

/-- In a run a move is live exactly while the ring is not empty, so the ring alone says whether the block is idle (R42). -/
theorem idle_iff_ring_empty : s.idle = true ↔ s.head = s.tail := by
  obtain ⟨-, -, -, ⟨-, hring⟩, -⟩ := h
  rw [idle_iff, and_iff_left_iff_imp]
  intro hempty
  rw [← Bool.not_eq_true, hring]
  exact fun hne => hne hempty

/-- A stopped block has the step compare off, so no move is live (R42 item d). -/
theorem idle_of_estopped (hest : s.estopped = true) : s.head = s.tail ∧ s.live = false := by
  obtain ⟨-, -, -, ⟨-, hring⟩, ⟨harm, hmode, -⟩, -⟩ := h
  have hlive : s.live = false := by
    rw [← Bool.not_eq_true]
    intro hlive
    obtain ⟨-, hest'⟩ := hmode (harm.trans hlive)
    cases hest.symm.trans hest'
  exact ⟨not_not.1 fun hne => Bool.false_ne_true (hlive.symm.trans (hring.2 hne)), hlive⟩

theorem qlen_ne_capacity_of_ring_empty (hempty : s.head = s.tail) : s.qlen ≠ s.cfg.queueCapacity := by
  obtain ⟨wf, -⟩ := h
  have hcap : 1 ≤ s.cfg.queueCapacity := WF.cap_pos wf
  rw [State.qlen, hempty, subMod_self _ (WF.ring_pos wf)]
  omega

theorem exec_init_result {t : State} (ht : exec .init s = .next t) :
    t.result = if s.running = true ∧ s.estopped = false ∧ s.head ≠ s.tail then .busy else .ok := by
  have hbusy : s.initBusy = true ↔ s.running = true ∧ s.estopped = false ∧ s.head ≠ s.tail := by
    rw [initBusy_iff, ← idle_iff, idle_iff_ring_empty h]
  by_cases hb : s.initBusy = true
  · rw [exec_init_of_busy hb] at ht
    cases ht
    exact (if_pos (hbusy.1 hb)).symm
  · rw [exec_init_of_not_busy hb] at ht
    cases ht
    exact (if_neg (mt hbusy.2 hb)).symm

theorem exec_setpos_result {t : State} (ht : exec .setpos s = .next t) :
    t.result = if s.head ≠ s.tail then .notIdle else .ok := by
  by_cases hidle : s.idle = true
  · have hempty := (idle_iff_ring_empty h).1 hidle
    rw [exec_setpos_of_idle hidle] at ht
    cases ht
    exact (if_neg (not_not.2 hempty)).symm
  · have hne := mt (idle_iff_ring_empty h).2 hidle
    rw [exec_setpos_of_not_idle hidle] at ht
    cases ht
    exact (if_pos hne).symm

/-- The column of PUSH and PUSH_HOME. -/
theorem pushCommand_acceptance (home : Bool) (esmask : BitVec 16) (escond : Bool) :
    let r := (pushCommand home esmask escond s).result
    (s.running = false → r = .notInit) ∧
    (s.running = true → s.estopped = true → r = .eStopped) ∧
    (s.running = true → s.estopped = false → s.head = s.tail → r = .ok ∨ r = .badMove) ∧
    (s.running = true → s.estopped = false → r = .ok ∨ r = .badMove ∨ r = .queueFullBlocked) := by
  refine ⟨fun hrun => ?_, fun hrun hest => ?_, fun hrun hest hempty => ?_, fun hrun hest => ?_⟩
  · rw [pushCommand_of_not_running hrun]; rfl
  · rw [pushCommand_of_estopped hrun hest]; rfl
  · rcases pushCommand_result hrun hest with hr | hr | ⟨hfull, -⟩
    · exact .inl hr
    · exact .inr hr
    · exact absurd hfull (qlen_ne_capacity_of_ring_empty h hempty)
  · exact (pushCommand_result hrun hest).imp_right (.imp_right And.right)

end Table

/-- Settles O22, one command of the table after the other. -/
theorem acceptanceTable : Obligations.AcceptanceTable := by
  intro s h
  refine ⟨fun t => exec_init_result h, fun t => exec_setpos_result h, fun i t hi ht => ?push, idle_of_estopped h,
    fun i t hi ht => ?fixed, fun w t hw ht => ?reserved⟩
  case push => rcases hi with rfl | ⟨esmask, sot, rfl⟩ <;> cases ht <;> exact pushCommand_acceptance h _ _ _
  case fixed => rcases hi with rfl | rfl <;> cases ht <;> rfl
  case reserved =>
    rw [command_of_reserved hw] at ht
    cases ht
    rfl

/-! ### The step that runs a command (logs 3, 5, 12) -/

theorem turn_host_wr {s : State} {a : BitVec 6} {v : Word} {rest : List HostStmt} (h : s.program = .wr a v :: rest) :
    turn .host s = hostWrite a v { s with program := rest } := by
  simp only [turn, hostTurn, h]

/-- A plain write is over in one turn. -/
theorem hostStatementRest_wr {s : State} {a : BitVec 6} {v : Word} {rest : List HostStmt}
    (h : s.program = .wr a v :: rest) (turns : List Turn) : hostStatementRest s turns = turns := by
  simp only [hostStatementRest, h]

/-- Both kinds of turn give a plain write to the host and are used up by it. -/
theorem nextAgent_of_wr {s : State} {a : BitVec 6} {v : Word} {rest : List HostStmt} {turns : List Turn}
    (hturn : s.schedule = .agent .host :: turns ∨ s.schedule = .hostStatement :: turns)
    (h : s.program = .wr a v :: rest) : nextAgent s = (.host, { s with schedule := turns }) := by
  rcases hturn with hturn | hturn
  · exact nextAgent_agent hturn
  · rw [nextAgent_hostStatement hturn, hostStatementRest_wr h]

/-- Settles O53: the turn is the host's, and its write to CMD is COMMAND of the word. -/
theorem stepRunsTheDecodedCommand : Obligations.StepRunsTheDecodedCommand := by
  intro s w i rest turns wf hturn hprog hdec
  calc step s = turn .host { s with schedule := turns } := by
        rw [step, if_pos wf, transition, nextAgent_of_wr hturn hprog]
    _ = command w { s with schedule := turns, program := rest } := by
        rw [turn_host_wr (s := { s with schedule := turns }) hprog, hostWrite_cmd]
    _ = exec i { s with schedule := turns, program := rest } := command_of_decode hdec _

end Sys2Proof.Machine
end

section
/-! PROOFS. 45_endstop_debouncer.md: a run of differing samples (O47), and the inputs no move looks at (O48). -/

namespace Sys2Proof.Machine

/-! ### A run of differing samples (R192) -/

section Run

variable {c : Config} {raw : Bool} {ch : Channel}

theorem dbSample_of_equal (c : Config) (ch : Channel) : dbSample c ch.level ch = (⟨ch.level, 0⟩, false) := by
  rw [dbSample_of_noFlip fun h => h.1 rfl, if_pos rfl]

/-- A differing sample before the last of the run is only counted. -/
theorem dbSample_of_counted (hraw : raw ≠ ch.level) (hcount : ch.count + 1 < c.debounceSamples) :
    dbSample c raw ch = (⟨ch.level, ch.count + 1⟩, false) := by
  rw [dbSample_of_noFlip fun h => Nat.not_le.2 hcount h.2, if_neg hraw]

theorem dbSample_iterate_of_lt (hraw : raw ≠ ch.level) (hcount : ch.count = 0) {k : Nat}
    (hk : k < c.debounceSamples) : (fun x => (dbSample c raw x).1)^[k] ch = ⟨ch.level, k⟩ := by
  induction k with
  | zero => exact congrArg (Channel.mk ch.level) hcount
  | succ k ih =>
    rw [Function.iterate_succ_apply', ih (Nat.lt_of_succ_lt hk), dbSample_of_counted (ch := ⟨ch.level, k⟩) hraw hk]

end Run

/-- Settles O47: the run is counted by `dbSample_iterate_of_lt`, and its last sample is the flip. -/
theorem debounceCountsConsecutiveSamples : Obligations.DebounceCountsConsecutiveSamples := by
  intro c ch raw hpos hraw hcount after
  have hrun (k : Nat) (hk : k < c.debounceSamples) : after k = ⟨ch.level, k⟩ :=
    dbSample_iterate_of_lt hraw hcount hk
  have hlast : dbSample c raw (after (c.debounceSamples - 1)) = (⟨raw, 0⟩, true) := by
    rw [hrun _ (by omega)]
    exact dbSample_of_flip hraw (Nat.le_add_of_sub_le le_rfl)
  refine ⟨hrun, ?flips, fun k hk => ⟨⟨fun h => ?onlyLast, ?last⟩, ?equal⟩⟩
  case flips =>
    calc after c.debounceSamples = after (c.debounceSamples - 1 + 1) := by rw [Nat.sub_add_cancel hpos]
      _ = (dbSample c raw (after (c.debounceSamples - 1))).1 := Function.iterate_succ_apply' _ _ _
      _ = ⟨raw, 0⟩ := by rw [hlast]
  case onlyLast =>
    by_contra hne
    rw [hrun k hk, dbSample_of_counted (ch := ⟨ch.level, k⟩) hraw (by dsimp only; omega)] at h
    cases h
  case last => rintro rfl; rw [hlast]
  case equal => rw [hrun k hk]; exact dbSample_of_equal c ⟨ch.level, k⟩

/-! ### Inputs outside the mask (R190, R195) -/

theorem db_ext {s t : State} (h : ∀ b : Fin 16, s.db[b] = t.db[b]) : s.db = t.db :=
  Vector.ext fun i hi => h ⟨i, hi⟩

section Unwatched

variable {m : Move} {s : State} {p : Vector (Option Bool) 16}

theorem esIn_withPins {b : Fin 16} (h : p[b] = s.pins[b]) : State.esIn { s with pins := p } b = s.esIn b := by
  simp only [State.esIn, h]

variable (hagree : ∀ b : Fin 16, watched s.cfg m b = true → p[b] = s.pins[b])
include hagree

theorem isHit_withPins (b : Fin 16) : isHit m { s with pins := p } b = isHit m s b := by
  by_cases hw : watched s.cfg m b = true
  · simp only [isHit, esIn_withPins (hagree b hw)]
  · simp only [isHit, hw, Bool.false_and]

theorem stepEndstops_withPins :
    stepEndstops m { s with pins := p } = { stepEndstops m s with pins := p } := by
  have hno : (stepEndstops m { s with pins := p }).stepNo = (stepEndstops m s).stepNo := by
    simp only [stepEndstops_stepNo, isHit_withPins hagree]
  have hdb : (stepEndstops m { s with pins := p }).db = (stepEndstops m s).db := db_ext fun b => by
    rw [stepEndstops_db, stepEndstops_db]
    exact ite_congr rfl (fun hw => by rw [esIn_withPins (hagree b hw)]) fun _ => rfl
  rw [stepEndstops_frame m { s with pins := p }, hno, hdb]
  rfl

theorem initWatched_withPins :
    initWatched m { s with pins := p } = { initWatched m s with pins := p } := by
  have hdb : (initWatched m { s with pins := p }).db = (initWatched m s).db := db_ext fun b => by
    rw [initWatched_db, initWatched_db]
    exact ite_congr rfl (fun hw => by rw [esIn_withPins (hagree b hw)]) fun _ => rfl
  rw [initWatched_frame m { s with pins := p }, hdb]
  rfl

end Unwatched

theorem watched_of_esmask_zero {m : Move} (h : m.esmask = 0) (c : Config) (b : Fin 16) : watched c m b = false := by
  simp [watched, h]

/-- With mask 0 no channel is sampled and none is a hit (60_exceptions.md R214). -/
theorem stepEndstops_of_esmask_zero {m : Move} (h : m.esmask = 0) (s : State) :
    stepEndstops m s = { s with stepNo := s.stepNo + 1, draws := s.draws + 1 } := by
  have hnone : ¬∃ b, isHit m s b = true := fun ⟨b, hb⟩ => by
    rw [isHit, watched_of_esmask_zero h, Bool.false_and, Bool.false_and] at hb
    exact Bool.false_ne_true hb
  have hdb : (stepEndstops m s).db = s.db := db_ext fun b => by
    rw [stepEndstops_db, watched_of_esmask_zero h, if_neg Bool.false_ne_true]
  rw [stepEndstops_frame, hdb, stepEndstops_stepNo, if_neg hnone]
  rfl

/-- Settles O48: both loops look at a pin only where the channel is watched. -/
theorem unwatchedInputsHaveNoEffect : Obligations.UnwatchedInputsHaveNoEffect := by
  intro m s p hagree
  have hwatched (b : Fin 16) (hw : watched s.cfg m b = true) : p[b] = s.pins[b] := by
    obtain ⟨hpresent, hmask⟩ := (watched_iff s.cfg m b).1 hw
    exact hagree b hpresent hmask
  exact ⟨stepEndstops_withPins hwatched, initWatched_withPins hwatched, fun h => stepEndstops_of_esmask_zero h s⟩

end Sys2Proof.Machine
end

section
/-! PROOFS. 60_exceptions.md: ESTOP and then INIT leave a usable block (O23), and every step answers (O52). -/

namespace Sys2Proof.Machine

/-! ### ESTOP and then INIT (R177, R178, R210) -/

/-- After ESTOP the mode bit alone lets INIT pass (R177). -/
theorem not_initBusy_of_estopped {s : State} (hest : s.estopped = true) : ¬s.initBusy = true := by
  rw [initBusy_iff]
  rintro ⟨-, hest', -⟩
  cases hest.symm.trans hest'

/-- An empty ring has room, whatever index its head and tail share. -/
theorem pushCommand_ok_of_empty {home : Bool} {esmask : BitVec 16} {escond : Bool} {s : State}
    (wf : s.cfg.WellFormed) (hrun : s.running = true) (hest : s.estopped = false) (hempty : s.head = s.tail)
    (hvalid : valid s.cfg s.mv home esmask = true) : (pushCommand home esmask escond s).result = .ok := by
  have hroom : s.qlen ≠ s.cfg.queueCapacity := by
    rw [State.qlen, hempty, subMod_self _ (WF.ring_pos wf)]
    exact Nat.ne_of_lt (WF.cap_pos wf)
  rw [pushCommand_accepted hrun hest hvalid hroom]
  rfl

/-- Settles O23: ESTOP is never refused and empties the ring, INIT passes on the stopped block, and PUSH finds room. -/
theorem estopThenInitRecovers : Obligations.EstopThenInitRecovers := fun _ =>
  ⟨_, _, rfl, exec_init_of_not_busy (not_initBusy_of_estopped rfl), rfl, rfl, rfl, rfl, rfl, rfl, rfl, rfl, rfl, rfl,
    rfl, fun hvalid wf => ⟨_, rfl, pushCommand_ok_of_empty wf rfl rfl rfl hvalid⟩⟩

/-! ### Every step answers (R210, R248) -/

/-- Every command answers a next state, refused or not, and none writes the configuration. -/
theorem exec_next (i : Instr) (s : State) : ∃ t, exec i s = .next t ∧ t.cfg = s.cfg := by
  cases i with
  | nop => exact ⟨_, rfl, rfl⟩
  | init => exact ⟨_, rfl, by split <;> rfl⟩
  | push => exact ⟨_, rfl, by rw [pushCommand_frame]⟩
  | pushHome esmask sot => exact ⟨_, rfl, by rw [pushCommand_frame]⟩
  | estop => exact ⟨_, rfl, rfl⟩
  | setpos => exact ⟨_, rfl, by split <;> rfl⟩

/-- A reserved word answers too (R180). -/
theorem command_next (w : Word) (s : State) : ∃ t, command w s = .next t ∧ t.cfg = s.cfg := by
  cases hdec : decode w with
  | none => exact ⟨_, command_of_reserved hdec s, rfl⟩
  | some i => rw [command_of_decode hdec]; exact exec_next i s

theorem hostWrite_next (a : BitVec 6) (v : Word) (s : State) : ∃ t, hostWrite a v s = .next t ∧ t.cfg = s.cfg := by
  unfold hostWrite
  split
  · exact command_next v s
  · split <;> exact ⟨_, rfl, rfl⟩

theorem hostRead_cfg (a : BitVec 6) (s : State) : (hostRead a s).cfg = s.cfg := by rw [hostRead_frame]

/-- Each statement of the host is a write, a read or no access at all, and none of them can fail. -/
theorem hostTurn_next (s : State) : ∃ t, hostTurn s = .next t ∧ t.cfg = s.cfg := by
  unfold hostTurn
  split
  case h_1 => exact ⟨_, rfl, rfl⟩
  case h_2 a v rest _ => exact hostWrite_next a v { s with program := rest }
  case h_3 a rest _ => exact ⟨_, rfl, hostRead_cfg a _⟩
  case h_4 a rest _ => exact hostWrite_next a s.readData { s with program := rest }
  case h_5 w rest _ => exact hostWrite_next Port.cmd w { s with program := .retryCheck w :: rest }
  case h_6 => exact ⟨_, rfl, hostRead_cfg Port.result s⟩
  case h_7 => exact ⟨_, rfl, hostRead_cfg Port.status s⟩
  case h_8 => exact ⟨_, rfl, rfl⟩

theorem turn_next (g : Agent) (s : State) : ∃ t, turn g s = .next t ∧ t.cfg = s.cfg := by
  cases g with
  | host => exact hostTurn_next s
  | counter => exact ⟨_, rfl, tick_cfg s⟩
  | tickBody => exact ⟨_, rfl, by unfold tickBodyEnd; split <;> rfl⟩
  | environment b v => exact ⟨_, rfl, rfl⟩
  | reset => exact ⟨_, rfl, rfl⟩

/-- Settles O52: a step under a configuration of the block is one turn, on a state that differs in `schedule` only. -/
theorem stepNeverFaults : Obligations.StepNeverFaults := by
  refine fun s => ⟨fun wf => ?answers, fun hwf => if_neg hwf⟩
  case answers =>
    obtain ⟨t, hturn, hcfg⟩ := turn_next (nextAgent s).1 (nextAgent s).2
    refine ⟨t, (if_pos wf).trans hturn, hcfg.trans ?_⟩
    rw [nextAgent_frame]

end Sys2Proof.Machine
end

section
/-! PROOFS. 70_reset_and_hazards.md: a quiescent block stays so (O57), and the state after reset (O49). -/

namespace Sys2Proof.Machine

/-! ### Quiescence (R243) -/

theorem quiescent_iff (s : State) : s.quiescent = true ↔ s.idle = true ∧ s.pulseTimer = 0 := by
  rw [State.quiescent, Bool.and_eq_true, beq_iff_eq]

/-- With no pulse on the lines the count of a TICK moves the counter only. -/
theorem countTick_of_no_pulse {s : State} (h : s.pulseTimer = 0) :
    countTick s = { s with cnt := (s.cnt + 1) % s.cfg.range } := by
  simp [countTick, h]

/-- With the step compare disarmed and no pulse on the lines a TICK makes no fire, and writes the counter and the tick
service's fields. -/
theorem tick_frame_of_disarmed {s : State} (harm : s.stepArmed = false) (hpulse : s.pulseTimer = 0) :
    tick s = { s with cnt := (tick s).cnt, ocrB := (tick s).ocrB, sysTicks := (tick s).sysTicks,
                      tickBusy := (tick s).tickBusy } := by
  rcases tick_cases s with ⟨-, e⟩ | ⟨-, u, e, ⟨-, -, rfl⟩ | ⟨hwrap, -⟩ | ⟨hfire, -⟩⟩
  · rw [e]
  · rw [e, countTick_of_no_pulse hpulse]
    split <;> rfl
  · simp [State.wrapFireNext, harm] at hwrap
  · simp [State.realFireNext, harm] at hfire

/-- Settles O57: an idle engine has the step compare off, and what a TICK then writes is not asked for by `quiescent`. -/
theorem quiescentBlockStaysQuiet : Obligations.QuiescentBlockStaysQuiet := by
  intro s h hquiet
  obtain ⟨hidle, hpulse⟩ := (quiescent_iff s).1 hquiet
  obtain ⟨-, hlive⟩ := (idle_iff s).1 hidle
  obtain ⟨-, -, -, -, ⟨harm, -⟩, -⟩ := h
  have hframe := tick_frame_of_disarmed (harm.trans hlive) hpulse
  exact ⟨(congrArg State.quiescent hframe).trans hquiet, hframe⟩

/-! ### The state after reset (R235, R236) -/

/-- A vector of zeros reads 0 inside its bounds and outside. -/
theorem replicate_zero_getD (n i : Nat) : (Vector.replicate n 0#32).getD i 0#32 = 0#32 := by
  by_cases hi : i < n <;> simp [Vector.getD, hi]

/-- After reset every debounced level is 0, and the raw half of ES is the environment's. -/
theorem esWord_low_resetWith (c : Config) : (State.resetWith c).esWord.extractLsb' 0 16 = 0 := by
  apply BitVec.eq_of_getLsbD_eq
  intro i hi
  have hlow := esWord_getLsbD_low (State.resetWith c) ⟨i, hi⟩
  have hlevel : (State.resetWith c).db[(⟨i, hi⟩ : Fin 16)].level = false := by simp [State.resetWith]
  simpa [hi] using hlow.trans hlevel

section
variable {c : Config} (wf : c.WellFormed)
include wf

theorem resetWith_qlen : (State.resetWith c).qlen = 0 := subMod_self 0 (WF.ring_pos wf)

theorem resetWith_queueFull : (State.resetWith c).queueFull = false := by
  have hcap : 0 < c.queueCapacity := WF.cap_pos wf
  rw [State.queueFull, resetWith_qlen wf]
  exact beq_false_of_ne (Nat.ne_of_lt hcap)

/-- After reset STATUS shows IDLE and QEMPTY and no other bit (R91). -/
theorem readReg_status_resetWith : (State.resetWith c).readReg Port.status = 0x00000028 := by
  have hword : (State.resetWith c).readReg Port.status = (State.resetWith c).statusWord := rfl
  rw [hword, State.statusWord, resetWith_queueFull wf]
  simp [State.resetWith, State.idle, State.queueEmpty, phaseCode]

/-- After reset every row of the register map but STATUS and ES is 0, so their order does not matter (R61). -/
theorem readReg_resetWith {a : BitVec 6} (hstatus : a ≠ Port.status) (hes : a ≠ Port.es) :
    (State.resetWith c).readReg a = 0 := by
  have hport : portWord 0 = 0#32 := rfl
  simp only [State.readReg, if_neg hstatus, if_neg hes, resetWith_qlen wf]
  simp [State.resetWith, hport, word, resultCode, replicate_zero_getD]

end

/-- Settles O49: the fields as `resetWith` writes them, and the registers by their rows of the map. -/
theorem resetState : Obligations.ResetState := by
  refine ⟨fun s => rfl, fun c => ⟨fun k => Vector.getElem_replicate k.isLt, rfl, rfl, rfl, rfl, rfl, rfl,
    fun a => ⟨Vector.getElem_replicate a.isLt, Vector.getElem_replicate a.isLt⟩, rfl, rfl, rfl, rfl, rfl, rfl, rfl, rfl,
    rfl, rfl, rfl, rfl, rfl, rfl, rfl, rfl, rfl, rfl, rfl, fun b => ?levels, fun wf => ?reads⟩⟩
  case levels => simp [State.resetWith]
  case reads => exact ⟨readReg_status_resetWith wf, fun a => readReg_resetWith wf, esWord_low_resetWith c⟩

end Sys2Proof.Machine
end
